-- ==== Sys2Proof/Word.lean ====
section
/-! DEFINITION. The word types of the block (`00_scope.md` R6, R8): bytes, the 16-bit value of a frame, and the 32-bit
quantities (`TW` = `VW` = 32: timeouts, the timer, the command's value input). -/

namespace Sys2Proof

/-- A byte of a frame or of a link stream (R8). -/
abbrev Byte := BitVec 8

/-- The 16-bit value field of a frame (R51). -/
abbrev Half := BitVec 16

/-- A `TW`- or `VW`-bit quantity; both widths are 32 (R6). -/
abbrev Word := BitVec 32

end Sys2Proof
end

