-- ==== Sys2Proof/Syntax.lean ====
section
/-! DEFINITION. The instructions of the block: one constructor per row of `spec/opcode_table.json`, with the operands its
row and rule name (`30_encoding.md` R70 to R85). -/

namespace Sys2Proof

/-- The three command kinds (`30_encoding.md` R73); the fourth `cmd_kind` code is not a kind (R82). -/
inductive Kind where
  | get | set | ping
  deriving DecidableEq, Repr, Inhabited

/-- The four channel codes, in code order (R73). -/
inductive Channel where
  | system | one | two | three
  deriving DecidableEq, Repr, Inhabited

/-- The four signal-kind codes, in code order (R73, conflict C11). -/
inductive Signal where
  | pwm | current | temperature | system
  deriving DecidableEq, Repr, Inhabited

/-- The response shape a command expects, in code order (R73, `00_scope.md` R7). -/
inductive Shape where
  | oknak | echo
  deriving DecidableEq, Repr, Inhabited

/-- Eight bytes, byte `i` at frame offset `i` (`20_memory.md` R50): the type of `frm` and `rxb`. -/
structure Frame where
  b0 : Byte
  b1 : Byte
  b2 : Byte
  b3 : Byte
  b4 : Byte
  b5 : Byte
  b6 : Byte
  b7 : Byte
  deriving DecidableEq, Repr, Inhabited

/-- The rows of `spec/opcode_table.json`.

* `get`, `set`, `ping`: the request frames (format request64; R71, R106 to R108).
* `rsp…`: the recognised response forms (formats response64 and short32; R141 to R149). Operands are the bytes the form
  leaves free; a byte the form fixes, or computes from the others, is no operand.
* `send…`, `pingSys`, `openSession`, `closeSession`: the host operations (format host9; R84, R85), with the operands of
  R84's notation. `tmo` is `cmd_tmo` when `cmd_tmo_ovr` = 1 and absent otherwise. -/
inductive Instr where
  | get (chan : Channel) (sig : Signal) (value : Half)
  | set (chan : Channel) (sig : Signal) (value : Half)
  | ping (chan : Channel) (sig : Signal) (value : Half)
  | rspOkSysinfo (low high : Byte)
  | rspOkReading (light sig low high : Byte)
  | rspOkBadsum (light sig low high sum : Byte)
  | rspNakFull (b2 b3 b4 b5 b6 : Byte)
  | rspEchoG (light sig low high b6 : Byte)
  | rspEchoS (light sig low high b6 : Byte)
  | rspEchoP (light sig low high b6 : Byte)
  | rspShortAck (b2 : Byte)
  | rspShortNak (b2 : Byte)
  | sendGet (chan : Channel) (sig : Signal) (value : Word) (tmo : Option Word) (shape : Shape)
  | sendSet (chan : Channel) (sig : Signal) (value : Word) (tmo : Option Word) (shape : Shape)
  | sendPing (chan : Channel) (sig : Signal) (value : Word) (tmo : Option Word) (shape : Shape)
  | pingSys (tmo : Option Word) (shape : Shape)
  | sendInvalid (chan : Channel) (sig : Signal) (value : Word) (tmo : Option Word) (shape : Shape)
  | openSession (tmo : Word)
  | closeSession
  deriving DecidableEq, Repr

end Sys2Proof
end

