-- ==== Sys2Proof/WellFormed.lean ====
section
/-! DEFINITION. Which terms of `Instr` stand for a word of their row: three rows share their mask and match with another row
and are told apart by a relation between operands (`30_encoding.md` R85 and the table's notes). -/

namespace Sys2Proof

/-- The relations that tell rows of one mask apart.

* `rspOkReading` is not the system pair (R147): that form is `rspOkSysinfo`.
* `rspOkBadsum` has a byte 6 that differs from the sum of bytes 2 to 5 (R145).
* `sendPing` with channel System, signal System and value 0 is `pingSys` (R84, log 7). -/
def Instr.wellFormed : Instr → Bool
  | .get _ _ _ => true
  | .set _ _ _ => true
  | .ping _ _ _ => true
  | .rspOkSysinfo _ _ => true
  | .rspOkReading light sig _ _ => !(light == 0x53 && sig == 0x53)
  | .rspOkBadsum light sig low high sum => light ^^^ sig ^^^ low ^^^ high != sum
  | .rspNakFull _ _ _ _ _ => true
  | .rspEchoG _ _ _ _ _ => true
  | .rspEchoS _ _ _ _ _ => true
  | .rspEchoP _ _ _ _ _ => true
  | .rspShortAck _ => true
  | .rspShortNak _ => true
  | .sendGet _ _ _ _ _ => true
  | .sendSet _ _ _ _ _ => true
  | .sendPing chan sig value _ _ => !(chan == .system && sig == .system && value == 0)
  | .pingSys _ _ => true
  | .sendInvalid _ _ _ _ _ => true
  | .openSession _ => true
  | .closeSession => true

/-- The response shapes under which the table's row applies: OKNAK for the three `'O'` rows (R145 to R147), ECHO for the
three echo rows (R149), either for the others (R142, R148; requests and host operations do not meet the shape). -/
def Instr.admits : Instr → Shape → Bool
  | .rspOkSysinfo _ _, shape => shape == .oknak
  | .rspOkReading _ _ _ _, shape => shape == .oknak
  | .rspOkBadsum _ _ _ _ _, shape => shape == .oknak
  | .rspEchoG _ _ _ _ _, shape => shape == .echo
  | .rspEchoS _ _ _ _ _, shape => shape == .echo
  | .rspEchoP _ _ _ _ _, shape => shape == .echo
  | .get _ _ _, _ => true
  | .set _ _ _, _ => true
  | .ping _ _ _, _ => true
  | .rspNakFull _ _ _ _ _, _ => true
  | .rspShortAck _, _ => true
  | .rspShortNak _, _ => true
  | .sendGet _ _ _ _ _, _ => true
  | .sendSet _ _ _ _ _, _ => true
  | .sendPing _ _ _ _ _, _ => true
  | .pingSys _ _, _ => true
  | .sendInvalid _ _ _ _ _, _ => true
  | .openSession _, _ => true
  | .closeSession, _ => true

end Sys2Proof
end

