-- ==== Sys2Proof/Decode.lean ====
section
/-! DEFINITION. Encodings (`30_encoding.md`, `40_encoder.md` R105, `41_decoder.md` R123): code tables, field extraction, the
decoder of request frames, response windows and host words, and the encoder. -/

namespace Sys2Proof

/-! ## Code tables (R72, R73) -/

/-- `KIND_BYTE` (R73). -/
def Kind.byte : Kind → Byte
  | .get => 0x47
  | .set => 0x53
  | .ping => 0x50

/-- The `cmd_kind` code (R73). -/
def Kind.code : Kind → BitVec 2
  | .get => 0
  | .set => 1
  | .ping => 2

/-- `CHAN_BYTE` (R73). -/
def Channel.byte : Channel → Byte
  | .system => 0x53
  | .one => 0x31
  | .two => 0x32
  | .three => 0x33

/-- The `cmd_chan` code (R73). -/
def Channel.code : Channel → BitVec 2
  | .system => 0
  | .one => 1
  | .two => 2
  | .three => 3

/-- The channel a `cmd_chan` code names (R73). -/
def Channel.ofCode (c : BitVec 2) : Channel :=
  if c = 0 then .system else if c = 1 then .one else if c = 2 then .two else .three

/-- The channel a request's byte 2 names, if any (R81). -/
def Channel.ofByte (b : Byte) : Option Channel :=
  if b = 0x53 then some .system
  else if b = 0x31 then some .one
  else if b = 0x32 then some .two
  else if b = 0x33 then some .three
  else none

/-- `SIG_BYTE` (R73). -/
def Signal.byte : Signal → Byte
  | .pwm => 0x50
  | .current => 0x43
  | .temperature => 0x54
  | .system => 0x53

/-- The `cmd_sig` code (R73). -/
def Signal.code : Signal → BitVec 2
  | .pwm => 0
  | .current => 1
  | .temperature => 2
  | .system => 3

/-- The signal a `cmd_sig` code names (R73). -/
def Signal.ofCode (c : BitVec 2) : Signal :=
  if c = 0 then .pwm else if c = 1 then .current else if c = 2 then .temperature else .system

/-- The signal a request's byte 3 names, if any (R81). -/
def Signal.ofByte (b : Byte) : Option Signal :=
  if b = 0x50 then some .pwm
  else if b = 0x43 then some .current
  else if b = 0x54 then some .temperature
  else if b = 0x53 then some .system
  else none

/-- `cfg_shape` (R73). -/
def Shape.ofBit (b : Bool) : Shape := if b then .echo else .oknak

/-- The `cfg_shape` bit of a shape (R73). -/
def Shape.bit : Shape → Bool
  | .oknak => false
  | .echo => true

/-- The other response shape. -/
def Shape.other : Shape → Shape
  | .oknak => .echo
  | .echo => .oknak

/-! ## Frame buffers and fields -/

/-- A buffer of eight `0x00` bytes. -/
def Frame.zero : Frame := ⟨0, 0, 0, 0, 0, 0, 0, 0⟩

/-- `B[i]` (`00_scope.md` R9); `0x00` beyond the buffer. -/
def Frame.byte (f : Frame) : Nat → Byte
  | 0 => f.b0
  | 1 => f.b1
  | 2 => f.b2
  | 3 => f.b3
  | 4 => f.b4
  | 5 => f.b5
  | 6 => f.b6
  | 7 => f.b7
  | _ => 0

/-- `B[i] <- b`; nothing beyond the buffer. -/
def Frame.setByte (f : Frame) (i : Nat) (b : Byte) : Frame :=
  match i with
  | 0 => { f with b0 := b }
  | 1 => { f with b1 := b }
  | 2 => { f with b2 := b }
  | 3 => { f with b3 := b }
  | 4 => { f with b4 := b }
  | 5 => { f with b5 := b }
  | 6 => { f with b6 := b }
  | 7 => { f with b7 := b }
  | _ => f

/-- The bytes in wire order (`20_memory.md` R53). -/
def Frame.toList (f : Frame) : List Byte := [f.b0, f.b1, f.b2, f.b3, f.b4, f.b5, f.b6, f.b7]

/-- The buffer whose first bytes are those given and whose others are `0x00` (`10_state.md` R28). -/
def Frame.ofList (bs : List Byte) : Frame :=
  ⟨bs.getD 0 0, bs.getD 1 0, bs.getD 2 0, bs.getD 3 0, bs.getD 4 0, bs.getD 5 0, bs.getD 6 0, bs.getD 7 0⟩

/-- The little-endian 16-bit value of two bytes (`20_memory.md` R51). -/
def valueOf (low high : Byte) : Half := low.setWidth 16 ||| (high.setWidth 16 <<< 8)

/-- `value(B)` (R51): the bytes at offsets 4 and 5. -/
def Frame.value (f : Frame) : Half := valueOf f.b4 f.b5

/-- `value_low` (R75). -/
def lowByte (v : Half) : Byte := v.extractLsb' 0 8

/-- `value_high` (R75). -/
def highByte (v : Half) : Byte := v.extractLsb' 8 8

/-- The request checksum, over the five payload bytes (R74). -/
def requestSum (b1 b2 b3 b4 b5 : Byte) : Byte := b1 ^^^ b2 ^^^ b3 ^^^ b4 ^^^ b5

/-- The response checksum, over bytes 2 to 5 (R76, conflict C1). -/
def responseSum (b2 b3 b4 b5 : Byte) : Byte := b2 ^^^ b3 ^^^ b4 ^^^ b5

/-- `Encode(k, c, s, v16)` (`40_encoder.md` R105). -/
def encodeRequest (k : Kind) (c : Channel) (s : Signal) (v : Half) : Frame :=
  { b0 := 0xAA
    b1 := k.byte
    b2 := c.byte
    b3 := s.byte
    b4 := lowByte v
    b5 := highByte v
    b6 := requestSum k.byte c.byte s.byte (lowByte v) (highByte v)
    b7 := 0x55 }

/-! ## Decoding -/

/-- Why a decoder rejects its input. -/
inductive DecodeError where
  /-- Not eight bytes (a request frame has eight, R71). -/
  | requestLength
  /-- First byte not `0xAA` or last byte not `0x55` (R125). -/
  | badMarkers
  /-- A request's byte 6 is not the five-byte checksum (R71, R74). -/
  | badRequestSum
  /-- A request's byte 1 is no command code (R81). -/
  | badCommand
  /-- A request's byte 2 is no channel (R81). -/
  | badChannel
  /-- A request's byte 3 is no signal kind (R81). -/
  | badSignal
  /-- A received sequence that is too short for a frame (R124, R127). -/
  | tooShort
  /-- A full frame whose offset-1 byte the shape does not recognise (R150). -/
  | unknownStatus
  /-- A short frame whose offset-1 byte is neither `'O'` nor `'N'` (R143). -/
  | malformed
  /-- A host word with no command and no session request (R182). -/
  | noRequest
  deriving DecidableEq, Repr

/-- The verdicts of `Decode(B, n)` (`41_decoder.md` R123). -/
inductive Verdict where
  | tooShort | badMarkers | short | full
  deriving DecidableEq, Repr

/-- `Decode(B, n)` of the byte sequence `bs`, `n` its length (`41_decoder.md` R123). It examines the length and the two
markers only (R126, R128). -/
def frameVerdict (bs : List Byte) : Verdict :=
  if bs.length < 4 then .tooShort
  else if bs.head? ≠ some 0xAA ∨ bs.getLast? ≠ some 0x55 then .badMarkers
  else if bs.length = 4 then .short
  else if bs.length = 8 then .full
  else .tooShort

/-- The request frame of the given command byte (R71, R81). -/
def requestInstr (b1 : Byte) (c : Channel) (s : Signal) (v : Half) : Except DecodeError Instr :=
  if b1 = Kind.get.byte then .ok (.get c s v)
  else if b1 = Kind.set.byte then .ok (.set c s v)
  else if b1 = Kind.ping.byte then .ok (.ping c s v)
  else .error .badCommand

/-- The decoder of request frames (R71, R74, R81): rows GET, SET and PING. -/
def decodeRequest (bs : List Byte) : Except DecodeError Instr :=
  match bs with
  | [b0, b1, b2, b3, b4, b5, b6, b7] =>
    if b0 ≠ 0xAA ∨ b7 ≠ 0x55 then .error .badMarkers
    else if b6 ≠ requestSum b1 b2 b3 b4 b5 then .error .badRequestSum
    else
      match Channel.ofByte b2, Signal.ofByte b3 with
      | some c, some s => requestInstr b1 c s (valueOf b4 b5)
      | none, _ => .error .badChannel
      | some _, none => .error .badSignal
  | _ => .error .requestLength

/-- The form of a short frame with good markers (R141 to R144). -/
def shortForm (b1 b2 : Byte) : Except DecodeError Instr :=
  if b1 = 0x4F then .ok (.rspShortAck b2)
  else if b1 = 0x4E then .ok (.rspShortNak b2)
  else .error .malformed

/-- The form of an OKNAK `'O'` frame: the checksum test precedes the system-info test (R85, R145 to R147). -/
def okForm (b2 b3 b4 b5 b6 : Byte) : Instr :=
  if responseSum b2 b3 b4 b5 ≠ b6 then .rspOkBadsum b2 b3 b4 b5 b6
  else if b2 = 0x53 ∧ b3 = 0x53 then .rspOkSysinfo b4 b5
  else .rspOkReading b2 b3 b4 b5

/-- The form of a full frame with good markers, with the precedence of `42_classifier.md` R140 (R85). -/
def fullForm (shape : Shape) (b1 b2 b3 b4 b5 b6 : Byte) : Except DecodeError Instr :=
  if b1 = 0x4E then .ok (.rspNakFull b2 b3 b4 b5 b6)
  else
    match shape with
    | .oknak => if b1 = 0x4F then .ok (okForm b2 b3 b4 b5 b6) else .error .unknownStatus
    | .echo =>
      if b1 = 0x47 then .ok (.rspEchoG b2 b3 b4 b5 b6)
      else if b1 = 0x53 then .ok (.rspEchoS b2 b3 b4 b5 b6)
      else if b1 = 0x50 then .ok (.rspEchoP b2 b3 b4 b5 b6)
      else .error .unknownStatus

/-- The decoder of received byte sequences under a response shape: the nine response rows (R85, R123, R140). -/
def decodeResponse (shape : Shape) (bs : List Byte) : Except DecodeError Instr :=
  match frameVerdict bs, bs with
  | .short, [_, b1, b2, _] => shortForm b1 b2
  | .full, [_, b1, b2, b3, b4, b5, b6, _] => fullForm shape b1 b2 b3 b4 b5 b6
  | .badMarkers, _ => .error .badMarkers
  | _, _ => .error .tooShort

/-- The operands of a host operation, outside the host word (R85): the command's value, timeout override and shape, and the
session timeout of OPEN. -/
structure HostOperands where
  value : Word
  tmoOvr : Bool
  tmo : Word
  shape : Bool
  openTmo : Word
  deriving DecidableEq, Repr

/-- Operands that are all 0. -/
def HostOperands.zero : HostOperands := ⟨0, false, 0, false, 0⟩

/-- The timeout operand: present when `cmd_tmo_ovr` = 1 (R84). -/
def HostOperands.tmo? (o : HostOperands) : Option Word := if o.tmoOvr then some o.tmo else none

/-- The host word `H` from its fields, `cmd_valid` in bit 8 and `close_req` in bit 0 (R85). -/
def hostWord (valid : Bool) (kind chan sig : BitVec 2) (openReq closeReq : Bool) : BitVec 9 :=
  BitVec.ofBool valid ++ kind ++ chan ++ sig ++ BitVec.ofBool openReq ++ BitVec.ofBool closeReq

/-- The command of a host word with `cmd_valid` = 1 (R73, R82, R84): PING of System and System with value 0 is the row
PING_SYS. -/
def commandInstr (kind : BitVec 2) (c : Channel) (s : Signal) (o : HostOperands) : Instr :=
  if kind = 0 then .sendGet c s o.value o.tmo? (Shape.ofBit o.shape)
  else if kind = 1 then .sendSet c s o.value o.tmo? (Shape.ofBit o.shape)
  else if kind = 2 then
    if c = .system ∧ s = .system ∧ o.value = 0 then .pingSys o.tmo? (Shape.ofBit o.shape)
    else .sendPing c s o.value o.tmo? (Shape.ofBit o.shape)
  else .sendInvalid c s o.value o.tmo? (Shape.ofBit o.shape)

/-- The decoder of host words (R85). A command takes the cycle, whatever the session requests; CLOSE wins over OPEN
(`43_session.md` R163). -/
def decodeHost (h : BitVec 9) (o : HostOperands) : Except DecodeError Instr :=
  if h.getLsbD 8 then
    .ok (commandInstr (h.extractLsb' 6 2) (Channel.ofCode (h.extractLsb' 4 2)) (Signal.ofCode (h.extractLsb' 2 2)) o)
  else if h.getLsbD 0 then .ok .closeSession
  else if h.getLsbD 1 then .ok (.openSession o.openTmo)
  else .error .noRequest

/-- What an instruction is read from: the request buffer in TX, the response window in EVAL, the host interface in IDLE. -/
inductive Code where
  | request (bytes : List Byte)
  | response (bytes : List Byte)
  | host (word : BitVec 9) (operands : HostOperands)
  deriving DecidableEq, Repr

/-- The decoder, total on all three sources; the shape selects the response rows that apply (R85). -/
def decode (shape : Shape) : Code → Except DecodeError Instr
  | .request bs => decodeRequest bs
  | .response bs => decodeResponse shape bs
  | .host h o => decodeHost h o

/-! ## Encoding -/

/-- A full response frame (R76 to R78). -/
def fullResponse (b1 b2 b3 b4 b5 b6 : Byte) : List Byte := [0xAA, b1, b2, b3, b4, b5, b6, 0x55]

/-- A short frame (R79). -/
def shortResponse (b1 b2 : Byte) : List Byte := [0xAA, b1, b2, 0x55]

/-- The operands of a command (R84); `cmd_tmo` is 0 when there is no override. -/
def commandOperands (value : Word) (tmo : Option Word) (shape : Shape) : HostOperands :=
  { value := value, tmoOvr := tmo.isSome, tmo := tmo.getD 0, shape := shape.bit, openTmo := 0 }

/-- The host word of a command (R85), the session requests 0. -/
def commandWord (kind : BitVec 2) (c : Channel) (s : Signal) : BitVec 9 :=
  hostWord true kind c.code s.code false false

/-- The encoder: the words of an instruction, from the tables of `30_encoding.md`. -/
def encode : Instr → Code
  | .get c s v => .request (encodeRequest .get c s v).toList
  | .set c s v => .request (encodeRequest .set c s v).toList
  | .ping c s v => .request (encodeRequest .ping c s v).toList
  | .rspOkSysinfo low high => .response (fullResponse 0x4F 0x53 0x53 low high (responseSum 0x53 0x53 low high))
  | .rspOkReading light sig low high => .response (fullResponse 0x4F light sig low high (responseSum light sig low high))
  | .rspOkBadsum light sig low high sum => .response (fullResponse 0x4F light sig low high sum)
  | .rspNakFull b2 b3 b4 b5 b6 => .response (fullResponse 0x4E b2 b3 b4 b5 b6)
  | .rspEchoG light sig low high b6 => .response (fullResponse 0x47 light sig low high b6)
  | .rspEchoS light sig low high b6 => .response (fullResponse 0x53 light sig low high b6)
  | .rspEchoP light sig low high b6 => .response (fullResponse 0x50 light sig low high b6)
  | .rspShortAck b2 => .response (shortResponse 0x4F b2)
  | .rspShortNak b2 => .response (shortResponse 0x4E b2)
  | .sendGet c s v tmo shape => .host (commandWord 0 c s) (commandOperands v tmo shape)
  | .sendSet c s v tmo shape => .host (commandWord 1 c s) (commandOperands v tmo shape)
  | .sendPing c s v tmo shape => .host (commandWord 2 c s) (commandOperands v tmo shape)
  | .pingSys tmo shape => .host (commandWord 2 .system .system) (commandOperands 0 tmo shape)
  | .sendInvalid c s v tmo shape => .host (commandWord 3 c s) (commandOperands v tmo shape)
  | .openSession tmo => .host (hostWord false 0 0 0 true false) { HostOperands.zero with openTmo := tmo }
  | .closeSession => .host (hostWord false 0 0 0 false true) HostOperands.zero

/-! ## The table's numbering -/

/-- The bytes of a table word, byte 0 in the most significant place (`30_encoding.md`, preamble). -/
def bytesOfWord (n w : Nat) : List Byte :=
  (List.range n).map fun i => BitVec.ofNat 8 (w >>> (8 * (n - 1 - i)))

/-- A row of `spec/opcode_table.json`: its width in bits, `match` and `mask`. -/
structure OpcodeRow where
  bits : Nat
  pattern : Nat
  mask : Nat
  deriving DecidableEq, Repr

/-- The row of each constructor, copied from `spec/opcode_table.json`. -/
def Instr.row : Instr → OpcodeRow
  | .get _ _ _ => ⟨64, 0xAA47000000000055, 0xFFFF0000000000FF⟩
  | .set _ _ _ => ⟨64, 0xAA53000000000055, 0xFFFF0000000000FF⟩
  | .ping _ _ _ => ⟨64, 0xAA50000000000055, 0xFFFF0000000000FF⟩
  | .rspOkSysinfo _ _ => ⟨64, 0xAA4F535300000055, 0xFFFFFFFF000000FF⟩
  | .rspOkReading _ _ _ _ => ⟨64, 0xAA4F000000000055, 0xFFFF0000000000FF⟩
  | .rspOkBadsum _ _ _ _ _ => ⟨64, 0xAA4F000000000055, 0xFFFF0000000000FF⟩
  | .rspNakFull _ _ _ _ _ => ⟨64, 0xAA4E000000000055, 0xFFFF0000000000FF⟩
  | .rspEchoG _ _ _ _ _ => ⟨64, 0xAA47000000000055, 0xFFFF0000000000FF⟩
  | .rspEchoS _ _ _ _ _ => ⟨64, 0xAA53000000000055, 0xFFFF0000000000FF⟩
  | .rspEchoP _ _ _ _ _ => ⟨64, 0xAA50000000000055, 0xFFFF0000000000FF⟩
  | .rspShortAck _ => ⟨32, 0xAA4F0055, 0xFFFF00FF⟩
  | .rspShortNak _ => ⟨32, 0xAA4E0055, 0xFFFF00FF⟩
  | .sendGet _ _ _ _ _ => ⟨9, 0x100, 0x1C0⟩
  | .sendSet _ _ _ _ _ => ⟨9, 0x140, 0x1C0⟩
  | .sendPing _ _ _ _ _ => ⟨9, 0x180, 0x1C0⟩
  | .pingSys _ _ => ⟨9, 0x18C, 0x1FC⟩
  | .sendInvalid _ _ _ _ _ => ⟨9, 0x1C0, 0x1C0⟩
  | .openSession _ => ⟨9, 0x002, 0x103⟩
  | .closeSession => ⟨9, 0x001, 0x101⟩

/-- The instruction of a full frame whose direction and shape are not given: a request frame if it is one, else a response
of the OKNAK shape, else of the ECHO shape (a well-formed request frame is an ECHO response too, R154; log 8). -/
def decodeFull (bs : List Byte) : Option Instr :=
  match decodeRequest bs with
  | .ok i => some i
  | .error _ =>
    match decodeResponse .oknak bs with
    | .ok i => some i
    | .error _ => (decodeResponse .echo bs).toOption

/-- The instruction of a table word: a host word of 9 bits with operands 0, a short frame of 32 bits, or a full frame of
64. -/
def decodeTableWord (nbits w : Nat) : Option Instr :=
  if nbits ≤ 16 then
    if w < 512 then (decodeHost (BitVec.ofNat 9 w) HostOperands.zero).toOption else none
  else if nbits ≤ 32 then (decodeResponse .oknak (bytesOfWord 4 w)).toOption
  else decodeFull (bytesOfWord 8 w)

end Sys2Proof
end

