-- ==== Sys2Proof/Machine/Inputs.lean ====
section
/-! DEFINITION. The input record of one clock cycle (`10_state.md` R35) and the host word the block reads from it
(`30_encoding.md` R85). `clk` is the step itself. -/

namespace Sys2Proof.Machine

/-- The block's inputs as sampled in one cycle (R35). -/
structure Inputs where
  rst : Bool
  cmdValid : Bool
  cmdKind : BitVec 2
  cmdChan : BitVec 2
  cmdSig : BitVec 2
  cmdValue : Word
  cmdTmoOvr : Bool
  cmdTmo : Word
  cfgShape : Bool
  rspReady : Bool
  txReady : Bool
  rxValid : Bool
  rxData : Byte
  openReq : Bool
  closeReq : Bool
  openTmo : Word
  phyAvail : Bool
  deriving DecidableEq, Repr, Inhabited

/-- Inputs in which nothing is asked of the block: all 0 but the two ready lines (the convention of
`95_test_vectors.md` section 3). -/
def Inputs.quiet : Inputs :=
  { rst := false, cmdValid := false, cmdKind := 0, cmdChan := 0, cmdSig := 0, cmdValue := 0, cmdTmoOvr := false,
    cmdTmo := 0, cfgShape := false, rspReady := true, txReady := true, rxValid := false, rxData := 0,
    openReq := false, closeReq := false, openTmo := 0, phyAvail := false }

/-- The 9-bit host word `H` (R85). -/
def Inputs.hostWord (i : Inputs) : BitVec 9 :=
  Sys2Proof.hostWord i.cmdValid i.cmdKind i.cmdChan i.cmdSig i.openReq i.closeReq

/-- The operands outside `H` (R85). -/
def Inputs.operands (i : Inputs) : HostOperands :=
  { value := i.cmdValue, tmoOvr := i.cmdTmoOvr, tmo := i.cmdTmo, shape := i.cfgShape, openTmo := i.openTmo }

/-- The inputs with a host word and its operands presented, and reset not asserted. -/
def Inputs.present (i : Inputs) (h : BitVec 9) (o : HostOperands) : Inputs :=
  { i with
    rst := false
    cmdValid := h.getLsbD 8
    cmdKind := h.extractLsb' 6 2
    cmdChan := h.extractLsb' 4 2
    cmdSig := h.extractLsb' 2 2
    openReq := h.getLsbD 1
    closeReq := h.getLsbD 0
    cmdValue := o.value
    cmdTmoOvr := o.tmoOvr
    cmdTmo := o.tmo
    cfgShape := o.shape
    openTmo := o.openTmo }

end Sys2Proof.Machine
end

