-- ==== Sys2Proof/Config.lean ====
section
/-! DEFINITION. The parameters of an instance (`00_scope.md` R6) and the free values: the OPEN parameters, and the inputs
the environment presents in cycles that no input list covers (R5). -/

namespace Sys2Proof

/-- The parameters of R6, fixed for the life of an instance. `TW` and `VW` have one legal value, 32, and are the widths of
the types; `RETRY_DELAY_CYCLES` and `SETTLE_CYCLES` have every 32-bit value as a legal value. -/
structure Params where
  /-- `MAX_ATTEMPTS`, legal 1 to 255. -/
  maxAttempts : Nat
  /-- `CLK_HZ`, legal if positive; no rule of the block reads it (R265). -/
  clkHz : Nat
  /-- `RETRY_DELAY_CYCLES`. -/
  retryDelay : Word
  /-- `SETTLE_CYCLES`. -/
  settleCycles : Word
  /-- `RETRY_MASK`, legal with bits 4 to 9 only. -/
  retryMask : BitVec 16
  /-- `ACCEPT_SHORT`. -/
  acceptShort : Bool
  deriving DecidableEq, Repr

/-- The clock frequency less one. `CLK_HZ` is OPEN in R6 (D24): a free value (log 5). 31 bits, because R6 bounds
`2*CLK_HZ - 1` by `2^32 - 1`. -/
opaque Config.clkHzLessOne : BitVec 31

/-- `SETTLE_CYCLES`, OPEN in R6 (D25): a free value (log 5). -/
opaque Config.settleCycles : Word

/-- What the environment presents in a cycle that the state's input list does not cover: a free input of every step, under
no law (R5, U7; log 2). -/
opaque Config.freeInputs : Nat → Machine.Inputs

/-- `CLK_HZ` of this hardware (R6). -/
def Config.clkHz : Nat := Config.clkHzLessOne.toNat + 1

/-- `RETRY_DELAY_CYCLES` of this hardware, `2*CLK_HZ - 1`: two seconds (R6, D24). -/
def Config.retryDelay : Word := BitVec.ofNat 32 (2 * Config.clkHz - 1)

/-- The parameter values of this hardware (R6). -/
def Config.params : Params :=
  { maxAttempts := 3
    clkHz := Config.clkHz
    retryDelay := Config.retryDelay
    settleCycles := Config.settleCycles
    retryMask := 0x03F0
    acceptShort := true }

end Sys2Proof
end

