-- ==== Sys2Proof/Machine/State.lean ====
section
/-! DEFINITION. The block's state: the register record of `10_state.md` R20, and the model's own fields (the parameters of
the instance, the environment's inputs to come, the bytes sent); its reset value (R20, `70_reset_and_hazards.md` R250); and
the reasons a step can stop. -/

namespace Sys2Proof.Machine

/-- The seven values of `st` (R21). Encoding 7 is never held (U12). -/
inductive SeqState where
  | idle | tx | settle | wait | eval | rwait | done
  deriving DecidableEq, Repr, Inhabited

/-- The thirteen result codes (`30_encoding.md` R80). Codes 13 to 15 do not exist (U11). -/
inductive ResultCode where
  | ack | nak | sysinfo | reading
  | checksumMismatch | unknownStatus | malformed
  | tooShort | badMarkers | timeout
  | valueOutOfRange | notOpen | invalidCommand
  deriving DecidableEq, Repr, Inhabited

/-- The machine. The first fourteen fields are the registers of R20; the last four are the model's own. -/
structure State where
  /-- `st`: the sequencer state (R21). -/
  st : SeqState
  /-- `sess_open`: the session is Open (R22). -/
  sessOpen : Bool
  /-- `sess_tmo`: the session's read timeout (R23). -/
  sessTmo : Word
  /-- `open_fail`: the one-cycle failure flag of OPEN (R24). -/
  openFail : Bool
  /-- `frm[0..7]`: the encoded request frame (R25). -/
  frm : Frame
  /-- `req_sig`: the command's signal kind (R26). -/
  reqSig : Signal
  /-- `req_shape`: the response shape the command expects (R26). -/
  reqShape : Shape
  /-- `req_tmo`: the read timeout in force (R26, R38). -/
  reqTmo : Word
  /-- `tx_idx`: the next request byte to send (R27). -/
  txIdx : BitVec 3
  /-- `rxb[0..7]`: the bytes received in the current window (R28). -/
  rxb : Frame
  /-- `rx_cnt`: how many bytes `rxb` holds, 0 to 8 (R29). -/
  rxCnt : BitVec 4
  /-- `tmr`: the timer (R30). -/
  tmr : Word
  /-- `att`: the attempts begun for the current command (R31). -/
  att : Byte
  /-- `res_code`: the latest result code (R32). -/
  resCode : ResultCode
  /-- Model's own: the parameters the instance was built with (`00_scope.md` R6; log 4). No step changes them. -/
  par : Params
  /-- Model's own: the inputs to come, this cycle's first (R5; log 2). -/
  env : List Inputs
  /-- Model's own: the cycles stepped so far; selects the free inputs of a cycle `env` does not cover (log 2). -/
  cycle : Nat
  /-- Model's own: the bytes the link transmitter has taken, oldest first: the record of `TxSend` (R9; log 3). -/
  wire : List Byte
  deriving DecidableEq, Repr

/-- Reasons to stop with a fault. There are none: "A model therefore has no fault outcome for any input sequence of a
legal configuration" (`00_scope.md` R10; log 9). -/
inductive Fault where
  deriving DecidableEq, Repr

/-- Reasons to have no meaning. -/
inductive Refusal where
  /-- An instruction without a meaning yet. Raised by an arm of `exec` only; no arm raises it. Safe. -/
  | notModelled (mnemonic : String)
  /-- Raised by `step` when the instance's parameters break a legal-values entry of `00_scope.md` R6: "A configuration
  that breaks a legal values entry is refused" (U13). Safe. -/
  | illegalConfiguration
  deriving DecidableEq, Repr

/-- The machine right after reset: every register at the value of R20, the session Closed, the parameters those of this
hardware, nothing sent and no input scheduled. -/
def State.reset : State :=
  { st := .idle
    sessOpen := false
    sessTmo := 0
    openFail := false
    frm := Frame.zero
    reqSig := .pwm
    reqShape := .oknak
    reqTmo := 0
    txIdx := 0
    rxb := Frame.zero
    rxCnt := 0
    tmr := 0
    att := 0
    resCode := .ack
    par := Config.params
    env := []
    cycle := 0
    wire := [] }

end Sys2Proof.Machine
end

