-- ==== Sys2Proof/Machine/Operands.lean ====
section
/-! DEFINITION. Operands of the block's operations: the parameters' legal values (`00_scope.md` R6), the range check of the
command's value (`40_encoder.md` R103), the read timeout of a command (R101, `43_session.md` R166), and the inputs sampled
in the current cycle. -/

namespace Sys2Proof

/-- The legal values of R6. -/
def Params.legal (p : Params) : Bool :=
  decide (1 ≤ p.maxAttempts) && decide (p.maxAttempts ≤ 255) && decide (0 < p.clkHz) && (p.retryMask &&& 0xFC0F == 0)

namespace Machine

/-- The inputs sampled in the current cycle: the head of the list, or the free inputs of this cycle (R5, R35; log 2). -/
def State.sampled (s : State) : Inputs :=
  match s.env with
  | i :: _ => i
  | [] => Config.freeInputs s.cycle

/-- The range check on `cmd_value` read as a signed integer (R103). -/
def valueInRange (v : Word) : Bool := decide (0 ≤ v.toInt) && decide (v.toInt ≤ 65535)

/-- `cmd_value[15:0]` (R75). -/
def rawValue (v : Word) : Half := v.setWidth 16

/-- The read timeout of a command: the override if given, else the session's (R101, R166). -/
def State.readTimeout (s : State) (tmo : Option Word) : Word := tmo.getD s.sessTmo

/-- The bytes of the response window, in arrival order (`41_decoder.md` R122). -/
def State.window (s : State) : List Byte := s.rxb.toList.take s.rxCnt.toNat

end Machine

end Sys2Proof
end

