-- ==== Sys2Proof/Machine/Flags.lean ====
section
/-! DEFINITION. Status computations. The block has no condition flags (`10_state.md` R34); its status is the result code
(`30_encoding.md` R80), the retry condition on it (`44_sequencer.md` R186), the failure flag of OPEN (`43_session.md` R165)
and the capture condition (`41_decoder.md` R120). -/

namespace Sys2Proof.Machine

/-- The number of a result code (R80). -/
def ResultCode.code : ResultCode → BitVec 4
  | .ack => 0
  | .nak => 1
  | .sysinfo => 2
  | .reading => 3
  | .checksumMismatch => 4
  | .unknownStatus => 5
  | .malformed => 6
  | .tooShort => 7
  | .badMarkers => 8
  | .timeout => 9
  | .valueOutOfRange => 10
  | .notOpen => 11
  | .invalidCommand => 12

/-- The number of a sequencer state on `state_o` (R21). -/
def SeqState.code : SeqState → BitVec 3
  | .idle => 0
  | .tx => 1
  | .settle => 2
  | .wait => 3
  | .eval => 4
  | .rwait => 5
  | .done => 6

/-- `RETRY_MASK[c] == 1 and att < MAX_ATTEMPTS` (R186). -/
def State.retries (s : State) (c : ResultCode) : Bool :=
  s.par.retryMask.getLsbD c.code.toNat && decide (s.att.toNat < s.par.maxAttempts)

/-- The value OPEN gives `open_fail` in an acting cycle (R165). -/
def State.openFails (s : State) : Bool := !s.sessOpen && !s.sampled.phyAvail

/-- The block is in a response window (R120). -/
def SeqState.receiving : SeqState → Bool
  | .idle => false
  | .tx => true
  | .settle => true
  | .wait => true
  | .eval => false
  | .rwait => false
  | .done => false

/-- The capture condition (R120). -/
def State.captures (s : State) : Bool :=
  s.sampled.rxValid && s.st.receiving && decide (s.rxCnt.toNat < 8)

/-- The `open_fail` formula of R165, on the inputs of the cycle. -/
def State.openFailNext (s : State) : Bool :=
  s.st == .idle && !s.sampled.cmdValid && !s.sampled.closeReq && s.sampled.openReq && !s.sessOpen && !s.sampled.phyAvail

end Sys2Proof.Machine
end

