-- ==== Sys2Proof/Machine/Ops.lean ====
section
/-! DEFINITION. The named operations over the registers: the cycle's beginning and end, reset, capture, the buffer clears,
starting an attempt, finishing a command (the block's analogue of taking an exception, `60_exceptions.md` R224), and
sending a byte. -/

namespace Sys2Proof.Machine

/-! ## The cycle around the sequencer -/

/-- The byte the transmit stream moves in this cycle, if any: `tx_data` when `tx_valid` = 1, which is `st` = TX
(`10_state.md` R36), and `tx_ready` = 1 (`20_memory.md` R56). -/
def State.linkTransfer (s : State) : List Byte :=
  if s.st = .tx ∧ s.sampled.txReady = true then [s.frm.byte s.txIdx.toNat] else []

/-- Every register at its reset value (`70_reset_and_hazards.md` R250). The parameters, the inputs to come and the bytes
sent are not registers. DESIGN CHOICE (log 19): the byte offered in the reset cycle itself counts as sent if `tx_ready` = 1,
as R36 and R56 read. -/
def State.resetRegisters (s : State) : State :=
  { State.reset with par := s.par, env := s.env, cycle := s.cycle, wire := s.wire ++ s.linkTransfer }

/-- `open_fail` is written every cycle: 0 unless OPEN writes it (`43_session.md` R165). -/
def State.beginCycle (s : State) : State := { s with openFail := false }

/-- The clock edge: the inputs of this cycle are used up. -/
def State.advance (s : State) : State := { s with env := s.env.tail, cycle := s.cycle + 1 }

/-- `RxTake`: the byte `b` stored at `rxb[rx_cnt]` (`41_decoder.md` R120), with the old count `n` and buffer `B`. -/
def State.storeByte (n : BitVec 4) (B : Frame) (b : Byte) (t : State) : State :=
  { t with rxb := B.setByte n.toNat b, rxCnt := n + 1 }

/-- Capture (R120), reading the old state `s` and writing `rxb` and `rx_cnt` of the new one `t`. A byte that is not captured
changes nothing (R121). -/
def State.capture (s t : State) : State :=
  if s.captures then t.storeByte s.rxCnt s.rxb s.sampled.rxData else t

/-- The end of a cycle whose state transition gave `t`. -/
def State.endCycle (s t : State) : State := (s.capture t).advance

/-! ## Commands and attempts -/

/-- What the acceptance cycle latches, whatever the checks say (`40_encoder.md` R101). -/
def State.latch (sig : Signal) (shape : Shape) (tmo : Word) (s : State) : State :=
  { s with reqSig := sig, reqShape := shape, reqTmo := tmo, rxCnt := 0, rxb := Frame.zero, txIdx := 0 }

/-- `StartAttempt(a)` (R104). -/
def State.startAttempt (a : Byte) (s : State) : State :=
  { s with att := a, txIdx := 0, rxCnt := 0, rxb := Frame.zero, st := .tx }

/-- `Finish(c)` (`44_sequencer.md` R190): the only way into DONE. -/
def State.finish (c : ResultCode) (s : State) : State := { s with resCode := c, st := .done }

/-- A command finished before transmission: `att <- 0; Finish(c)` (R102). -/
def State.finishUnsent (c : ResultCode) (s : State) : State := { s with att := 0, resCode := c, st := .done }

/-- `frm <- Encode(…)` (R102, R105). -/
def State.setFrame (f : Frame) (s : State) : State := { s with frm := f }

/-- A command of a defined kind in its acceptance cycle (R101, R102): latch, range check, encode, session check, first
attempt. -/
def State.acceptCommand (k : Kind) (c : Channel) (sig : Signal) (v : Word) (tmo : Option Word) (shape : Shape)
    (s : State) : State :=
  let latched := s.latch sig shape (s.readTimeout tmo)
  if valueInRange v then
    let encoded := latched.setFrame (encodeRequest k c sig (rawValue v))
    if s.sessOpen then encoded.startAttempt 1 else encoded.finishUnsent .notOpen
  else latched.finishUnsent .valueOutOfRange

/-- A command of the reserved kind in its acceptance cycle (R101, R102). -/
def State.rejectCommand (sig : Signal) (tmo : Option Word) (shape : Shape) (s : State) : State :=
  (s.latch sig shape (s.readTimeout tmo)).finishUnsent .invalidCommand

/-! ## Transmission -/

/-- `TxSend(b)` (`00_scope.md` R9). -/
def State.send (b : Byte) (s : State) : State := { s with wire := s.wire ++ [b] }

/-- A TX cycle that offers the byte `b` (R109). -/
def State.txCycle (b : Byte) (s : State) : State :=
  if s.sampled.txReady then
    if s.txIdx = 7 then { s.send b with txIdx := 0, tmr := s.par.settleCycles, st := .settle }
    else { s.send b with txIdx := s.txIdx + 1 }
  else s

/-! ## Evaluation -/

/-- Entry into the retry wait with result `c` (`44_sequencer.md` R186). -/
def State.retry (c : ResultCode) (s : State) : State := { s with resCode := c, tmr := s.par.retryDelay, st := .rwait }

/-- The EVAL cycle with the attempt's result `c` (R186). -/
def State.evalCycle (c : ResultCode) (s : State) : State := if s.retries c then s.retry c else s.finish c

/-! ## Session -/

/-- OPEN in an acting cycle (`43_session.md` R161, R164, R165). -/
def State.openSession (tmo : Word) (s : State) : State :=
  if s.sessOpen then { s with openFail := false }
  else if s.sampled.phyAvail then { s with sessOpen := true, sessTmo := tmo, openFail := false }
  else { s with openFail := true }

/-- CLOSE in an acting cycle (R162, R165). -/
def State.closeSession (s : State) : State := { s with sessOpen := false, openFail := false }

end Sys2Proof.Machine
end

