-- ==== Sys2Proof/Machine/Commands.lean ====
section
/-! DEFINITION. The meanings of the host's commands (`40_encoder.md` R100 to R108, `30_encoding.md` R82, R84): acceptance in
IDLE. In any other state a command is ignored (R100). -/

namespace Sys2Proof.Machine

/-- SEND of kind GET (R106). -/
def execSendGet (c : Channel) (sig : Signal) (v : Word) (tmo : Option Word) (shape : Shape) (s : State) :
    Host.Outcome State Fault Refusal :=
  .next (if s.st = .idle then s.acceptCommand .get c sig v tmo shape else s)

/-- SEND of kind SET (R107). -/
def execSendSet (c : Channel) (sig : Signal) (v : Word) (tmo : Option Word) (shape : Shape) (s : State) :
    Host.Outcome State Fault Refusal :=
  .next (if s.st = .idle then s.acceptCommand .set c sig v tmo shape else s)

/-- SEND of kind PING (R108). -/
def execSendPing (c : Channel) (sig : Signal) (v : Word) (tmo : Option Word) (shape : Shape) (s : State) :
    Host.Outcome State Fault Refusal :=
  .next (if s.st = .idle then s.acceptCommand .ping c sig v tmo shape else s)

/-- PING_SYS: `SEND PING, SYS, SYS, 0` (R84, D33). -/
def execPingSys (tmo : Option Word) (shape : Shape) (s : State) : Host.Outcome State Fault Refusal :=
  .next (if s.st = .idle then s.acceptCommand .ping .system .system 0 tmo shape else s)

/-- SEND of the reserved kind `11` (R82, R102): INVALID_COMMAND before any other check; nothing is sent. -/
def execSendInvalid (_c : Channel) (sig : Signal) (_v : Word) (tmo : Option Word) (shape : Shape) (s : State) :
    Host.Outcome State Fault Refusal :=
  .next (if s.st = .idle then s.rejectCommand sig tmo shape else s)

end Sys2Proof.Machine
end

