-- ==== Sys2Proof/Machine/Requests.lean ====
section
/-! DEFINITION. The meanings of the request frames GET, SET and PING (`40_encoder.md` R106 to R109): one TX cycle in which
the frame's byte at `tx_idx` is offered to the link transmitter and sent if it is ready. Outside TX the block offers no
byte (`10_state.md` R36, log 6) and the frame has no effect. -/

namespace Sys2Proof.Machine

/-- A request frame in one cycle. -/
def State.offerFrame (f : Frame) (s : State) : State :=
  if s.st = .tx then s.txCycle (f.byte s.txIdx.toNat) else s

/-- GET (R106, R109). -/
def execGet (c : Channel) (sig : Signal) (v : Half) (s : State) : Host.Outcome State Fault Refusal :=
  .next (s.offerFrame (encodeRequest .get c sig v))

/-- SET (R107, R109). -/
def execSet (c : Channel) (sig : Signal) (v : Half) (s : State) : Host.Outcome State Fault Refusal :=
  .next (s.offerFrame (encodeRequest .set c sig v))

/-- PING (R108, R109). -/
def execPing (c : Channel) (sig : Signal) (v : Half) (s : State) : Host.Outcome State Fault Refusal :=
  .next (s.offerFrame (encodeRequest .ping c sig v))

end Sys2Proof.Machine
end

