-- ==== Sys2Proof/Machine/Classifier.lean ====
section
/-! DEFINITION. The classifier as the spec writes it: `Classify` (`42_classifier.md` R140) and `Evaluate`
(`44_sequencer.md` R185), pure functions of the received bytes, their number and the latched shape. -/

namespace Sys2Proof.Machine

/-- `SysOrReading(B)` (R140). -/
def sysOrReading (b2 b3 : Byte) : ResultCode := if b2 = 0x53 ∧ b3 = 0x53 then .sysinfo else .reading

/-- `ClassifyShort(B)` (R140 to R144). -/
def classifyShort (B : Frame) : ResultCode :=
  if B.b1 = 0x4F then .ack else if B.b1 = 0x4E then .nak else .malformed

/-- `ClassifyFull(B, shape)` (R140, R145 to R150). -/
def classifyFull (B : Frame) (shape : Shape) : ResultCode :=
  if B.b1 = 0x4E then .nak
  else
    match shape with
    | .oknak =>
      if B.b1 = 0x4F then
        if responseSum B.b2 B.b3 B.b4 B.b5 ≠ B.b6 then .checksumMismatch else sysOrReading B.b2 B.b3
      else .unknownStatus
    | .echo => if B.b1 = 0x47 ∨ B.b1 = 0x53 ∨ B.b1 = 0x50 then sysOrReading B.b2 B.b3 else .unknownStatus

/-- `Evaluate(rxb, n, shape)` (R185), `acceptShort` being the parameter `ACCEPT_SHORT`. -/
def evaluate (acceptShort : Bool) (B : Frame) (n : Nat) (shape : Shape) : ResultCode :=
  if n = 8 then
    match frameVerdict B.toList with
    | .full => classifyFull B shape
    | .short => .tooShort
    | .badMarkers => .badMarkers
    | .tooShort => .tooShort
  else if n = 4 ∧ acceptShort = true ∧ frameVerdict (B.toList.take 4) = .short then classifyShort B
  else .timeout

end Sys2Proof.Machine
end

