-- ==== Sys2Proof/Machine/Responses.lean ====
section
/-! DEFINITION. The meanings of the response forms (`42_classifier.md` R141 to R149): the EVAL cycle on a window that holds
the form, with the result its row names and the retry decision of `44_sequencer.md` R186. A form of the other shape is an
unknown status (R150), and a short frame that is not accepted is a timeout (R185). Outside EVAL nothing is classified
(log 6). -/

namespace Sys2Proof.Machine

/-- The EVAL cycle with result `c`; no effect in another state. -/
def State.evaluateAs (c : ResultCode) (s : State) : State := if s.st = .eval then s.evalCycle c else s

/-- The result of a form of the OKNAK shape (R76, R150). -/
def State.oknakResult (s : State) (c : ResultCode) : ResultCode :=
  match s.reqShape with
  | .oknak => c
  | .echo => .unknownStatus

/-- The result of a form of the ECHO shape (R78, R150). -/
def State.echoResult (s : State) (c : ResultCode) : ResultCode :=
  match s.reqShape with
  | .oknak => .unknownStatus
  | .echo => c

/-- The result of a short frame (R185). -/
def State.shortResult (s : State) (c : ResultCode) : ResultCode := if s.par.acceptShort then c else .timeout

/-- RSP_OK_SYSINFO (R146). -/
def execRspOkSysinfo (_low _high : Byte) (s : State) : Host.Outcome State Fault Refusal :=
  .next (s.evaluateAs (s.oknakResult .sysinfo))

/-- RSP_OK_READING (R147). -/
def execRspOkReading (_light _sig _low _high : Byte) (s : State) : Host.Outcome State Fault Refusal :=
  .next (s.evaluateAs (s.oknakResult .reading))

/-- RSP_OK_BADSUM (R145). -/
def execRspOkBadsum (_light _sig _low _high _sum : Byte) (s : State) : Host.Outcome State Fault Refusal :=
  .next (s.evaluateAs (s.oknakResult .checksumMismatch))

/-- RSP_NAK_FULL (R148): either shape, bytes 2 to 6 not examined. -/
def execRspNakFull (_b2 _b3 _b4 _b5 _b6 : Byte) (s : State) : Host.Outcome State Fault Refusal :=
  .next (s.evaluateAs .nak)

/-- RSP_ECHO_G (R149): byte 6 not examined, the echo not compared with the request (R153). -/
def execRspEchoG (light sig _low _high _b6 : Byte) (s : State) : Host.Outcome State Fault Refusal :=
  .next (s.evaluateAs (s.echoResult (sysOrReading light sig)))

/-- RSP_ECHO_S (R149). -/
def execRspEchoS (light sig _low _high _b6 : Byte) (s : State) : Host.Outcome State Fault Refusal :=
  .next (s.evaluateAs (s.echoResult (sysOrReading light sig)))

/-- RSP_ECHO_P (R149). -/
def execRspEchoP (light sig _low _high _b6 : Byte) (s : State) : Host.Outcome State Fault Refusal :=
  .next (s.evaluateAs (s.echoResult (sysOrReading light sig)))

/-- RSP_SHORT_ACK (R141): byte 2 not examined (R144), either shape. -/
def execRspShortAck (_b2 : Byte) (s : State) : Host.Outcome State Fault Refusal :=
  .next (s.evaluateAs (s.shortResult .ack))

/-- RSP_SHORT_NAK (R142). -/
def execRspShortNak (_b2 : Byte) (s : State) : Host.Outcome State Fault Refusal :=
  .next (s.evaluateAs (s.shortResult .nak))

end Sys2Proof.Machine
end

