-- ==== Sys2Proof/Machine/Session.lean ====
section
/-! DEFINITION. The meanings of OPEN and CLOSE (`43_session.md` R161 to R165). They act in IDLE only (R163). -/

namespace Sys2Proof.Machine

/-- OPEN (R161, R164, R165). -/
def execOpenSession (tmo : Word) (s : State) : Host.Outcome State Fault Refusal :=
  .next (if s.st = .idle then s.openSession tmo else s)

/-- CLOSE (R162, R165). -/
def execCloseSession (s : State) : Host.Outcome State Fault Refusal :=
  .next (if s.st = .idle then s.closeSession else s)

end Sys2Proof.Machine
end

