-- ==== Sys2Proof/Machine/Dispatch.lean ====
section
/-! DEFINITION. The dispatch of every instruction to its meaning. -/

namespace Sys2Proof.Machine

def exec (i : Instr) (s : State) : Host.Outcome State Fault Refusal :=
  match i with
  | .get c sig v => Sys2Proof.Machine.execGet c sig v s
  | .set c sig v => Sys2Proof.Machine.execSet c sig v s
  | .ping c sig v => Sys2Proof.Machine.execPing c sig v s
  | .rspOkSysinfo low high => Sys2Proof.Machine.execRspOkSysinfo low high s
  | .rspOkReading light sig low high => Sys2Proof.Machine.execRspOkReading light sig low high s
  | .rspOkBadsum light sig low high sum => Sys2Proof.Machine.execRspOkBadsum light sig low high sum s
  | .rspNakFull x y z u v => Sys2Proof.Machine.execRspNakFull x y z u v s
  | .rspEchoG light sig low high x => Sys2Proof.Machine.execRspEchoG light sig low high x s
  | .rspEchoS light sig low high x => Sys2Proof.Machine.execRspEchoS light sig low high x s
  | .rspEchoP light sig low high x => Sys2Proof.Machine.execRspEchoP light sig low high x s
  | .rspShortAck x => Sys2Proof.Machine.execRspShortAck x s
  | .rspShortNak x => Sys2Proof.Machine.execRspShortNak x s
  | .sendGet c sig v tmo shape => Sys2Proof.Machine.execSendGet c sig v tmo shape s
  | .sendSet c sig v tmo shape => Sys2Proof.Machine.execSendSet c sig v tmo shape s
  | .sendPing c sig v tmo shape => Sys2Proof.Machine.execSendPing c sig v tmo shape s
  | .pingSys tmo shape => Sys2Proof.Machine.execPingSys tmo shape s
  | .sendInvalid c sig v tmo shape => Sys2Proof.Machine.execSendInvalid c sig v tmo shape s
  | .openSession tmo => Sys2Proof.Machine.execOpenSession tmo s
  | .closeSession => Sys2Proof.Machine.execCloseSession s

end Sys2Proof.Machine
end

