-- ==== Sys2Proof/Machine/Sequencer.lean ====
section
/-! DEFINITION. The cycles of the sequencer in which no instruction acts (`44_sequencer.md` R181 to R188): the waits, and the
TX and EVAL cycles on a buffer that holds none of the table's forms. -/

namespace Sys2Proof.Machine

/-- SETTLE (R183). -/
def State.settleCycle (s : State) : State :=
  if s.tmr = 0 then { s with tmr := s.reqTmo, st := .wait } else { s with tmr := s.tmr - 1 }

/-- WAIT (R184). -/
def State.waitCycle (s : State) : State :=
  if s.rxCnt = 8 ∨ s.tmr = 0 then { s with st := .eval } else { s with tmr := s.tmr - 1 }

/-- RWAIT (R187). -/
def State.rwaitCycle (s : State) : State :=
  if s.tmr = 0 then s.startAttempt (s.att + 1) else { s with tmr := s.tmr - 1 }

/-- DONE (R188). -/
def State.doneCycle (s : State) : State := if s.sampled.rspReady then { s with st := .idle } else s

/-- The code of the window in EVAL (R185). -/
def State.evaluation (s : State) : ResultCode := evaluate s.par.acceptShort s.rxb s.rxCnt.toNat s.reqShape

/-- A cycle's transition when no instruction acts (R181). In IDLE nothing is asked (R182); in TX and EVAL the buffers are
used as they stand (R109, R185). -/
def State.sequence (s : State) : State :=
  match s.st with
  | .idle => s
  | .tx => s.txCycle (s.frm.byte s.txIdx.toNat)
  | .settle => s.settleCycle
  | .wait => s.waitCycle
  | .eval => s.evalCycle s.evaluation
  | .rwait => s.rwaitCycle
  | .done => s.doneCycle

end Sys2Proof.Machine
end

