-- ==== Sys2Proof/Machine/Fetch.lean ====
section
/-! DEFINITION. Where an instruction is read from, by `st` (log 6), and how one is placed there. -/

namespace Sys2Proof.Machine

/-- The instruction of the response window: a complete read of 8 bytes, or an accepted short frame (`44_sequencer.md`
R185). -/
def State.fetchWindow (s : State) : Option Instr :=
  if s.rxCnt = 8 ∨ (s.rxCnt = 4 ∧ s.par.acceptShort = true) then (decodeResponse s.reqShape s.window).toOption else none

/-- The instruction of this cycle, if any: the host word in IDLE (R85), the request buffer in TX (R109), the response window
in EVAL (R185). -/
def State.fetch (s : State) : Option Instr :=
  match s.st with
  | .idle => (decodeHost s.sampled.hostWord s.sampled.operands).toOption
  | .tx => (decodeRequest s.frm.toList).toOption
  | .eval => s.fetchWindow
  | .settle => none
  | .wait => none
  | .rwait => none
  | .done => none

/-- The state with this cycle's inputs changed by `f`; the quiet inputs are changed when none are scheduled. -/
def State.withInputs (s : State) (f : Inputs → Inputs) : State :=
  match s.env with
  | i :: rest => { s with env := f i :: rest }
  | [] => { s with env := [f Inputs.quiet] }

/-- A host word of the table presented in IDLE, its operands 0. -/
def State.placeHost (s : State) (w : Nat) : State :=
  { s.withInputs (fun i => i.present (BitVec.ofNat 9 w) HostOperands.zero) with st := .idle }

/-- A received sequence placed in the window at EVAL, under a shape that recognises it. -/
def State.placeWindow (s : State) (bs : List Byte) : State :=
  { s.withInputs (fun i => { i with rst := false }) with
    st := .eval
    rxb := Frame.ofList bs
    rxCnt := BitVec.ofNat 4 bs.length
    reqShape := if (decodeResponse s.reqShape bs).isOk then s.reqShape else s.reqShape.other }

/-- A request frame placed in the request buffer at the beginning of TX. -/
def State.placeRequest (s : State) (bs : List Byte) : State :=
  { s.withInputs (fun i => { i with rst := false }) with st := .tx, frm := Frame.ofList bs, txIdx := 0 }

/-- A full frame of the table placed where it is fetched from: a request frame in TX, any other in EVAL (log 8). -/
def State.placeFull (s : State) (bs : List Byte) : State :=
  if (decodeRequest bs).isOk then s.placeRequest bs else s.placeWindow bs

end Sys2Proof.Machine
end

