-- ==== Sys2Proof/Machine/Step.lean ====
section
/-! DEFINITION. The step: one clock cycle (`44_sequencer.md` R180). -/

namespace Sys2Proof.Machine

/-- One clock cycle. An illegal configuration has no meaning (`00_scope.md` R6). In a cycle with `rst` = 1 every register takes
its reset value (R250). Otherwise the fetched instruction acts, or the sequencer runs without one; `open_fail` is cleared
before and the received byte captured after, as R180's parts write disjoint registers. -/
def step (s : State) : Host.Outcome State Fault Refusal :=
  if s.par.legal then
    if s.sampled.rst then .next s.resetRegisters.advance
    else
      match s.fetch with
      | some i =>
        match exec i s.beginCycle with
        | .next t => .next (s.endCycle t)
        | .fault r => .fault r
        | .refused r => .refused r
      | none => .next (s.endCycle s.beginCycle.sequence)
  else .refused .illegalConfiguration

/-- The state in which the next step fetches and runs the instruction of a table word: a host word (up to 16 bits given) in
IDLE, a short frame (32 bits) or a full frame (64 bits) in its buffer (log 11). -/
def State.withFetchWord (s : State) (nbits w : Nat) : State :=
  if nbits ≤ 16 then s.placeHost w
  else if nbits ≤ 32 then s.placeWindow (bytesOfWord 4 w)
  else s.placeFull (bytesOfWord 8 w)

end Sys2Proof.Machine
end

