-- ==== Sys2Proof/Machine/Cycle.lean ====
section
/-! DEFINITION. The spec's own step function, transcribed from `44_sequencer.md` R180 and the pseudocode it names, with no
decoder and no instruction: the reference the instruction-level `step` is compared with. Acceptance, the session and the
use of the raw buffers are written here; the TX and EVAL cycles on a given byte or code, the waits, capture and reset are
the operations `step` uses too. -/

namespace Sys2Proof.Machine

/-- `Encode(k, c, s, v16)` on the input codes, by the indexed tables of `30_encoding.md` R73 (`40_encoder.md` R105). -/
def encodeCodes (k c s : BitVec 2) (v : Half) : Frame :=
  let b1 := ([0x47, 0x53, 0x50] : List Byte).getD k.toNat 0
  let b2 := ([0x53, 0x31, 0x32, 0x33] : List Byte).getD c.toNat 0
  let b3 := ([0x50, 0x43, 0x54, 0x53] : List Byte).getD s.toNat 0
  let b4 := v.extractLsb' 0 8
  let b5 := v.extractLsb' 8 8
  ⟨0xAA, b1, b2, b3, b4, b5, b1 ^^^ b2 ^^^ b3 ^^^ b4 ^^^ b5, 0x55⟩

/-- Acceptance (R101, R102) on the sampled inputs. -/
def State.accept (s : State) (i : Inputs) : State :=
  let latched : State :=
    { s with
      reqSig := Signal.ofCode i.cmdSig
      reqShape := Shape.ofBit i.cfgShape
      reqTmo := if i.cmdTmoOvr then i.cmdTmo else s.sessTmo
      rxCnt := 0
      rxb := Frame.zero
      txIdx := 0 }
  if i.cmdKind = 3 then { latched with att := 0, resCode := .invalidCommand, st := .done }
  else if i.cmdValue.toInt < 0 ∨ 65535 < i.cmdValue.toInt then
    { latched with att := 0, resCode := .valueOutOfRange, st := .done }
  else if s.sessOpen = false then
    { latched with
      frm := encodeCodes i.cmdKind i.cmdChan i.cmdSig (i.cmdValue.extractLsb' 0 16)
      att := 0
      resCode := .notOpen
      st := .done }
  else
    { latched with
      frm := encodeCodes i.cmdKind i.cmdChan i.cmdSig (i.cmdValue.extractLsb' 0 16)
      att := 1
      st := .tx }

/-- `Transition(S, in)` (R180, R181). -/
def State.transition (s : State) (i : Inputs) : State :=
  match s.st with
  | .idle => if i.cmdValid then s.accept i else s
  | .tx => s.txCycle (s.frm.byte s.txIdx.toNat)
  | .settle => s.settleCycle
  | .wait => s.waitCycle
  | .eval => s.evalCycle s.evaluation
  | .rwait => s.rwaitCycle
  | .done => s.doneCycle

/-- `Session(S, in)` (R161, R162, R165), writing `sess_open`, `sess_tmo` and `open_fail` of the new state `t`. -/
def State.sessionWrites (s : State) (i : Inputs) (t : State) : State :=
  let acts := s.st == .idle && !i.cmdValid
  let opens := acts && !i.closeReq && i.openReq && !s.sessOpen && i.phyAvail
  { t with
    sessOpen := if acts && i.closeReq then false else if opens then true else s.sessOpen
    sessTmo := if opens then i.openTmo else s.sessTmo
    openFail := s.openFailNext }

/-- `Step(S, in)` (R180) with `in` the inputs sampled in this cycle. -/
def State.clockCycle (s : State) : State :=
  if s.sampled.rst then s.resetRegisters.advance
  else s.endCycle (s.sessionWrites s.sampled (s.transition s.sampled))

end Sys2Proof.Machine
end

