-- ==== Sys2Proof/Machine/Outputs.lean ====
section
/-! DEFINITION. The outputs, functions of the registers alone (`10_state.md` R36, R37), and the typed result they carry while
`rsp_valid` = 1 (`42_classifier.md` R151). -/

namespace Sys2Proof.Machine

/-- The output record (R36). `rspBytes` is `rsp_byte0..7` and `txFrame` is `tx_frame0..7`. -/
structure Outputs where
  cmdReady : Bool
  busy : Bool
  txValid : Bool
  txData : Byte
  rspValid : Bool
  rspCode : BitVec 4
  rspAttempts : Byte
  rspLen : BitVec 4
  rspBytes : Frame
  rspStatus : Byte
  rspChan : Byte
  rspSig : Byte
  rspValue : Half
  rspFwMajor : Byte
  rspFwMinor : Byte
  rspReqSig : BitVec 2
  sessOpenO : Bool
  openFail : Bool
  stateO : BitVec 3
  txFrame : Frame
  deriving DecidableEq, Repr

/-- The outputs in a state (R36). -/
def State.outputs (s : State) : Outputs :=
  { cmdReady := s.st == .idle
    busy := s.st != .idle
    txValid := s.st == .tx
    txData := if s.st = .tx then s.frm.byte s.txIdx.toNat else 0
    rspValid := s.st == .done
    rspCode := s.resCode.code
    rspAttempts := s.att
    rspLen := s.rxCnt
    rspBytes := s.rxb
    rspStatus := s.rxb.b1
    rspChan := s.rxb.b2
    rspSig := s.rxb.b3
    rspValue := s.rxb.value
    rspFwMajor := s.rxb.b5
    rspFwMinor := s.rxb.b4
    rspReqSig := s.reqSig.code
    sessOpenO := s.sessOpen
    openFail := s.openFail
    stateO := s.st.code
    txFrame := s.frm }

/-- What a result code gives meaning to (R151): the source's response variants and errors. -/
inductive Report where
  | ack (status : Byte) (bytes : List Byte)
  | nak (status : Byte) (bytes : List Byte)
  | sysinfo (major minor : Byte) (value : Half) (bytes : List Byte)
  | reading (channel signal : Byte) (value : Half) (requested : Signal) (bytes : List Byte)
  | checksumMismatch (bytes : List Byte)
  | unknownStatus (status : Byte) (bytes : List Byte)
  | malformed (status : Byte) (bytes : List Byte)
  | tooShort (bytes : List Byte)
  | badMarkers (bytes : List Byte)
  | timeout (bytes : List Byte)
  | valueOutOfRange
  | notOpen (unsent : Frame)
  | invalidCommand
  deriving DecidableEq, Repr

/-- The typed result and the attempt count, offered while `rsp_valid` = 1 (R151). -/
def State.report (s : State) : Option (Report × Byte) :=
  if s.st = .done then
    some
      (match s.resCode with
        | .ack => .ack s.rxb.b1 s.window
        | .nak => .nak s.rxb.b1 s.window
        | .sysinfo => .sysinfo s.rxb.b5 s.rxb.b4 s.rxb.value s.rxb.toList
        | .reading => .reading s.rxb.b2 s.rxb.b3 s.rxb.value s.reqSig s.rxb.toList
        | .checksumMismatch => .checksumMismatch s.rxb.toList
        | .unknownStatus => .unknownStatus s.rxb.b1 s.window
        | .malformed => .malformed s.rxb.b1 s.window
        | .tooShort => .tooShort s.window
        | .badMarkers => .badMarkers s.window
        | .timeout => .timeout s.window
        | .valueOutOfRange => .valueOutOfRange
        | .notOpen => .notOpen s.frm
        | .invalidCommand => .invalidCommand,
        s.att)
  else none

end Sys2Proof.Machine
end

