-- ==== Sys2Proof/Safety.lean ====
section
/-! DEFINITION. What counts as a safe state of the block, and the terms in which statements about runs are written. -/

namespace Sys2Proof.Machine

/-- A command is in flight: it has been accepted and has no result yet. -/
def SeqState.inFlight : SeqState → Bool
  | .idle => false
  | .tx => true
  | .settle => true
  | .wait => true
  | .eval => true
  | .rwait => true
  | .done => false

/-- The frame is one that `Encode` builds (`30_encoding.md` R71, R81; `40_encoder.md` R111). -/
def isRequestFrame (f : Frame) : Prop := ∃ k c sig v, f = encodeRequest k c sig v

/-- The results found before transmission (`40_encoder.md` R102, `60_exceptions.md` R226). -/
def ResultCode.unsent : ResultCode → Bool
  | .valueOutOfRange => true
  | .notOpen => true
  | .invalidCommand => true
  | .ack => false
  | .nak => false
  | .sysinfo => false
  | .reading => false
  | .checksumMismatch => false
  | .unknownStatus => false
  | .malformed => false
  | .tooShort => false
  | .badMarkers => false
  | .timeout => false

/-- The invariant of the block's reachable states: R33 of `10_state.md`, with what the rules say of the buffers, the
session, the timer and the result in each state. -/
structure State.Inv (s : State) : Prop where
  /-- The parameters are legal (R6). -/
  legal : s.par.legal = true
  /-- `rx_cnt <= 8` (R33). -/
  rxCount : s.rxCnt.toNat ≤ 8
  /-- Bytes not yet received hold `0x00` (R28). -/
  rxTail : ∀ i, s.rxCnt.toNat ≤ i → s.rxb.byte i = 0
  /-- `att <= MAX_ATTEMPTS` (R33). -/
  attempts : s.att.toNat ≤ s.par.maxAttempts
  /-- `att = 0` only if `st` is IDLE or DONE (R33). -/
  unsent : s.att = 0 → s.st = .idle ∨ s.st = .done
  /-- The session is Open while a command is in flight (`43_session.md` R167). -/
  busyOpen : s.st.inFlight = true → s.sessOpen = true
  /-- Every frame sent is a request frame (R111). -/
  busyFrame : s.st.inFlight = true → isRequestFrame s.frm
  /-- `tx_idx` is 0 outside TX (R101, R104, R109). -/
  txIndex : s.st ≠ .tx → s.txIdx = 0
  /-- `open_fail` is 1 only in an IDLE cycle of a Closed session (R165). -/
  openFail : s.openFail = true → s.st = .idle ∧ s.sessOpen = false
  /-- The retry wait follows a retried result (`44_sequencer.md` R186). -/
  retried : s.st = .rwait → s.retries s.resCode = true
  /-- A result in DONE that was sent is not retried any more (R186). -/
  final : s.st = .done → s.att ≠ 0 → s.retries s.resCode = false
  /-- A result in DONE is one found before transmission exactly if nothing was sent (R221). -/
  doneCode : s.st = .done → (s.resCode.unsent = true ↔ s.att = 0)
  /-- `TOO_SHORT` is never a command's result (R124, R221). -/
  noTooShort : s.resCode ≠ .tooShort
  /-- The settle timer never exceeds its load (R193). -/
  settleTimer : s.st = .settle → s.tmr.toNat ≤ s.par.settleCycles.toNat
  /-- The response timer never exceeds its load (R193). -/
  waitTimer : s.st = .wait → s.tmr.toNat ≤ s.reqTmo.toNat
  /-- The retry timer never exceeds its load (R193). -/
  rwaitTimer : s.st = .rwait → s.tmr.toNat ≤ s.par.retryDelay.toNat

/-- The inputs that the run from `s` will sample `k` cycles from now. -/
def State.inputAt (s : State) (k : Nat) : Inputs := (s.env[k]?).getD (Config.freeInputs (s.cycle + k))

/-- Every input of the next `n` cycles satisfies `p`. -/
def State.during (s : State) (n : Nat) (p : Inputs → Bool) : Prop := ∀ k, k < n → p (s.inputAt k) = true

/-- Reset is not asserted. -/
def Inputs.noReset (i : Inputs) : Bool := !i.rst

/-- `n` steps of the machine. -/
def runSteps (n : Nat) (s : State) : Host.Outcome State Fault Refusal := Host.Core.run Sys2Proof.core n s

/-- The registers of R20, without the model's own fields: `s` with the own fields of `t`. -/
def State.registersOf (s t : State) : State :=
  { s with par := t.par, env := t.env, cycle := t.cycle, wire := t.wire }

/-- The inputs `i` with the command and session lines of `j`. -/
def Inputs.withHostLines (i j : Inputs) : Inputs :=
  { i with
    cmdValid := j.cmdValid
    cmdKind := j.cmdKind
    cmdChan := j.cmdChan
    cmdSig := j.cmdSig
    cmdValue := j.cmdValue
    cmdTmoOvr := j.cmdTmoOvr
    cmdTmo := j.cmdTmo
    cfgShape := j.cfgShape
    openReq := j.openReq
    closeReq := j.closeReq
    openTmo := j.openTmo
    phyAvail := j.phyAvail }

end Sys2Proof.Machine
end

