-- ==== Sys2Proof/Certificates/Slice0/Obligations.lean ====
section
/-! DEFINITION. The statements about the block, taken from the numbered rules of `spec/`. -/

open Sys2Proof Sys2Proof.Machine

/-! ## Encoding -/

/-- Decode and encode agree on every well-formed instruction, under every shape its row applies to. -/
def Obligations.DecodeInvertsEncode : Prop :=
  ∀ (i : Instr) (shape : Shape), i.wellFormed = true → i.admits shape = true → decode shape (encode i) = .ok i

/-- Whatever byte sequence a frame decoder accepts is the encoding of the well-formed instruction it answers. -/
def Obligations.AcceptedFrameIsItsEncoding : Prop :=
  ∀ (shape : Shape) (bs : List Byte) (i : Instr),
    (decodeRequest bs = .ok i → i.wellFormed = true ∧ encode i = .request bs) ∧
    (decodeResponse shape bs = .ok i → i.wellFormed = true ∧ i.admits shape = true ∧ encode i = .response bs)

/-- What each host word means: a command takes the cycle whatever the session requests, CLOSE wins over OPEN, and a word
with none of the three is no request (R85, R163). PING of System, System and value 0 is read as the row PING_SYS, which is
the model's reading of R84 (log 7). -/
def Obligations.HostWordMeaning : Prop :=
  ∀ (kind chan sig : BitVec 2) (o c : Bool) (ops : HostOperands),
    decodeHost (hostWord true 0 chan sig o c) ops =
      .ok (.sendGet (Channel.ofCode chan) (Signal.ofCode sig) ops.value ops.tmo? (Shape.ofBit ops.shape)) ∧
    decodeHost (hostWord true 1 chan sig o c) ops =
      .ok (.sendSet (Channel.ofCode chan) (Signal.ofCode sig) ops.value ops.tmo? (Shape.ofBit ops.shape)) ∧
    decodeHost (hostWord true 2 chan sig o c) ops =
      (if chan = 0 ∧ sig = 3 ∧ ops.value = 0 then .ok (.pingSys ops.tmo? (Shape.ofBit ops.shape))
       else .ok (.sendPing (Channel.ofCode chan) (Signal.ofCode sig) ops.value ops.tmo? (Shape.ofBit ops.shape))) ∧
    decodeHost (hostWord true 3 chan sig o c) ops =
      .ok (.sendInvalid (Channel.ofCode chan) (Signal.ofCode sig) ops.value ops.tmo? (Shape.ofBit ops.shape)) ∧
    decodeHost (hostWord false kind chan sig o true) ops = .ok .closeSession ∧
    decodeHost (hostWord false kind chan sig true false) ops = .ok (.openSession ops.openTmo) ∧
    decodeHost (hostWord false kind chan sig false false) ops = .error .noRequest

/-- A few words of `spec/95_test_vectors.md` decode to the instructions they stand for. -/
def Obligations.WrittenWordsDecode : Prop :=
  decodeTableWord 64 0xAA533143FF03DD55 = some (.set .one .current 0x03FF) ∧
  decodeTableWord 64 0xAA4F00500F001055 = some (.rspOkBadsum 0x00 0x50 0x0F 0x00 0x10) ∧
  decodeTableWord 64 0xAA4F535302010355 = some (.rspOkSysinfo 0x02 0x01) ∧
  decodeTableWord 64 0xAA47315064000055 = some (.rspEchoG 0x31 0x50 0x64 0x00 0x00) ∧
  decodeTableWord 32 0xAA4F0055 = some (.rspShortAck 0x00) ∧
  decodeTableWord 16 0x18C = some (.pingSys none .oknak) ∧
  decodeTableWord 16 0x003 = some .closeSession

/-- `Encode` (R105): the eight bytes of every request frame, with the five-byte checksum (R74) and the little-endian value
(R75). -/
def Obligations.RequestFrameBytes : Prop :=
  ∀ (k : Kind) (c : Channel) (s : Signal) (v : Half),
    (encodeRequest k c s v).b0 = 0xAA ∧
    (encodeRequest k c s v).b1 = (match k with | .get => 0x47 | .set => 0x53 | .ping => 0x50) ∧
    (encodeRequest k c s v).b2 = (match c with | .system => 0x53 | .one => 0x31 | .two => 0x32 | .three => 0x33) ∧
    (encodeRequest k c s v).b3 =
      (match s with | .pwm => 0x50 | .current => 0x43 | .temperature => 0x54 | .system => 0x53) ∧
    (encodeRequest k c s v).b4 = v.extractLsb' 0 8 ∧
    (encodeRequest k c s v).b5 = v.extractLsb' 8 8 ∧
    (encodeRequest k c s v).b6 =
      (encodeRequest k c s v).b1 ^^^ (encodeRequest k c s v).b2 ^^^ (encodeRequest k c s v).b3 ^^^
        (encodeRequest k c s v).b4 ^^^ (encodeRequest k c s v).b5 ∧
    (encodeRequest k c s v).b7 = 0x55

/-- The value field is little-endian, with the low byte at offset 4 and the high byte at offset 5 of any frame buffer, both
read and written (R51), and encoding it loses nothing. -/
def Obligations.ValueFieldLittleEndian : Prop :=
  (∀ B : Frame, B.value = (B.byte 4).zeroExtend 16 ||| ((B.byte 5).zeroExtend 16 <<< 8)) ∧
  (∀ (k : Kind) (c : Channel) (s : Signal) (v : Half),
    (encodeRequest k c s v).byte 4 = v.extractLsb' 0 8 ∧ (encodeRequest k c s v).byte 5 = v.extractLsb' 8 8 ∧
      (encodeRequest k c s v).value = v) ∧
  (∀ s : State, s.outputs.rspValue = s.rxb.value) ∧
  (∀ b4 b5 : Byte, valueOf b4 b5 = b4.zeroExtend 16 ||| (b5.zeroExtend 16 <<< 8)) ∧
  (∀ v : Half, lowByte v = v.extractLsb' 0 8 ∧ highByte v = v.extractLsb' 8 8) ∧
  (∀ v : Half, valueOf (lowByte v) (highByte v) = v) ∧
  (∀ b4 b5 : Byte, lowByte (valueOf b4 b5) = b4 ∧ highByte (valueOf b4 b5) = b5)

/-- The firmware version of a system response is in the two value bytes, major high and minor low (R52). -/
def Obligations.FirmwareVersionBytes : Prop :=
  ∀ s : State,
    s.outputs.rspFwMajor = s.rxb.b5 ∧ s.outputs.rspFwMinor = s.rxb.b4 ∧
    s.outputs.rspValue = s.outputs.rspFwMajor ++ s.outputs.rspFwMinor

/-- `Decode(B, n)` (R123): length before markers, markers before kind, and no other byte examined. -/
def Obligations.DecodeVerdicts : Prop :=
  ∀ (B : Frame) (n : Nat), n ≤ 8 →
    frameVerdict (B.toList.take n) =
      if n < 4 then .tooShort
      else if B.byte 0 ≠ 0xAA ∨ B.byte (n - 1) ≠ 0x55 then .badMarkers
      else if n = 4 then .short
      else if n = 8 then .full
      else .tooShort

/-! ## Classification -/

/-- The per-row meanings agree with the spec's `Evaluate`: in EVAL the form found in the window acts as the EVAL cycle with
the code that R185 and R140 compute from the same bytes. -/
def Obligations.FormsAgreeWithEvaluate : Prop :=
  ∀ (s : State) (i : Instr), s.st = .eval → s.fetchWindow = some i → exec i s = .next (s.evalCycle s.evaluation)

/-- `UNKNOWN_STATUS` exactly for the offset-1 bytes the shape does not recognise (R150). -/
def Obligations.UnknownStatusExactly : Prop :=
  ∀ (B : Frame) (shape : Shape),
    classifyFull B shape = .unknownStatus ↔
      (match shape with
        | .oknak => B.b1 ≠ 0x4F ∧ B.b1 ≠ 0x4E
        | .echo => B.b1 ≠ 0x47 ∧ B.b1 ≠ 0x53 ∧ B.b1 ≠ 0x50 ∧ B.b1 ≠ 0x4E)

/-- Byte 2 of a short frame is not examined, and is visible on `rsp_byte2` (R144): a window of four bytes is evaluated the
same whatever its byte 2 is, and `AA 4F 00 55` is ACK. -/
def Obligations.ShortFrameStatusOnly : Prop :=
  (∀ (B : Frame) (b : Byte), classifyShort { B with b2 := b } = classifyShort B) ∧
  (∀ (a : Bool) (B : Frame) (b : Byte) (shape : Shape), evaluate a { B with b2 := b } 4 shape = evaluate a B 4 shape) ∧
  (∀ (B : Frame) (shape : Shape),
    B.b0 = 0xAA → B.b1 = 0x4F → B.b2 = 0x00 → B.b3 = 0x55 → evaluate true B 4 shape = .ack) ∧
  (∀ s : State, s.outputs.rspBytes.b2 = s.rxb.b2)

/-- The round trip of R154: an echoed request frame is a full frame that classifies as SYSINFO or READING and gives back the
request's channel, signal and value on the outputs. -/
def Obligations.EchoedRequestRoundTrip : Prop :=
  ∀ (k : Kind) (c : Channel) (sig : Signal) (v : Half) (s : State),
    frameVerdict (encodeRequest k c sig v).toList = .full ∧
    classifyFull (encodeRequest k c sig v) .echo = (if c = .system ∧ sig = .system then .sysinfo else .reading) ∧
    (s.rxb = encodeRequest k c sig v →
      s.outputs.rspChan = c.byte ∧ s.outputs.rspSig = sig.byte ∧ s.outputs.rspValue = v)

/-- What `Evaluate` can answer: never TOO_SHORT and none of the results found before transmission (R185, R221). -/
def Obligations.EvaluateRange : Prop :=
  ∀ (a : Bool) (B : Frame) (n : Nat) (shape : Shape),
    evaluate a B n shape ≠ .tooShort ∧ evaluate a B n shape ≠ .valueOutOfRange ∧
    evaluate a B n shape ≠ .notOpen ∧ evaluate a B n shape ≠ .invalidCommand

/-- A window with fewer than eight bytes is TIMEOUT unless it is an accepted short frame, and a window with eight bytes
never is (R185, R223). -/
def Obligations.PartialWindowTimesOut : Prop :=
  ∀ (a : Bool) (B : Frame) (n : Nat) (shape : Shape), n ≤ 8 →
    (evaluate a B n shape = .timeout ↔ n ≠ 8 ∧ ¬(n = 4 ∧ a = true ∧ B.b0 = 0xAA ∧ B.b3 = 0x55))

/-- RSP_OK_SYSINFO and RSP_OK_READING in EVAL finish the command with their code and change nothing else, when the command
expects the OKNAK shape (R146, R147, R186). -/
def Obligations.OkFormsFinish : Prop :=
  ∀ (s : State) (light sig low high : Byte), s.par.legal = true → s.st = .eval → s.reqShape = .oknak →
    exec (.rspOkSysinfo low high) s = .next { s with resCode := .sysinfo, st := .done } ∧
    exec (.rspOkReading light sig low high) s = .next { s with resCode := .reading, st := .done }

/-- RSP_OK_BADSUM in EVAL is CHECKSUM_MISMATCH: retried while the mask and the attempts allow, else final (R145, R186). -/
def Obligations.BadChecksumRetriesOrFinishes : Prop :=
  ∀ (s : State) (light sig low high sum : Byte), s.st = .eval → s.reqShape = .oknak →
    exec (.rspOkBadsum light sig low high sum) s =
      .next
        (if s.par.retryMask.getLsbD 4 = true ∧ s.att.toNat < s.par.maxAttempts then
          { s with resCode := .checksumMismatch, tmr := s.par.retryDelay, st := .rwait }
         else { s with resCode := .checksumMismatch, st := .done })

/-- RSP_NAK_FULL in EVAL finishes the command with NAK under either shape, whatever bytes 2 to 6 are (R148, R186, R222). -/
def Obligations.NakFullFinishes : Prop :=
  ∀ (s : State) (b2 b3 b4 b5 b6 : Byte), s.par.legal = true → s.st = .eval →
    exec (.rspNakFull b2 b3 b4 b5 b6) s = .next { s with resCode := .nak, st := .done }

/-- The echo forms in EVAL finish the command, SYSINFO for the system pair and READING otherwise, byte 6 not examined, when
the command expects the ECHO shape (R149, R186). -/
def Obligations.EchoFormsFinish : Prop :=
  ∀ (s : State) (light sig low high b6 : Byte), s.par.legal = true → s.st = .eval → s.reqShape = .echo →
    let t : State := { s with resCode := if light = 0x53 ∧ sig = 0x53 then .sysinfo else .reading, st := .done }
    exec (.rspEchoG light sig low high b6) s = .next t ∧
    exec (.rspEchoS light sig low high b6) s = .next t ∧
    exec (.rspEchoP light sig low high b6) s = .next t

/-- The accepted short frames in EVAL finish the command with ACK or NAK, whatever byte 2 is and under either shape (R141,
R142, R144, R185, R186). -/
def Obligations.ShortFormsFinish : Prop :=
  ∀ (s : State) (b2 : Byte), s.par.legal = true → s.st = .eval → s.par.acceptShort = true →
    exec (.rspShortAck b2) s = .next { s with resCode := .ack, st := .done } ∧
    exec (.rspShortNak b2) s = .next { s with resCode := .nak, st := .done }

/-! ## Commands -/

/-- The range check (R103): it fails exactly if bit 31 is set or bits 31 to 16 are not all 0. -/
def Obligations.RangeCheckBits : Prop :=
  (∀ v : Word, valueInRange v = false ↔ (v.getLsbD 31 = true ∨ v.extractLsb' 16 16 ≠ 0)) ∧
  valueInRange 0 = true ∧ valueInRange 65535 = true ∧
  valueInRange 0xFFFFFFFF = false ∧ valueInRange 0x00010000 = false

/-- SEND of each kind with a value in range, accepted while the session is Open, latches the context, builds the frame and
starts the first attempt (R101, R102, R104, R105 to R108). -/
def Obligations.SendStartsFirstAttempt : Prop :=
  ∀ (s : State) (c : Channel) (sig : Signal) (v : Word) (tmo : Option Word) (shape : Shape),
    s.st = .idle → s.sessOpen = true → valueInRange v = true →
    let started (k : Kind) : State :=
      { s with
        reqSig := sig
        reqShape := shape
        reqTmo := (match tmo with | some w => w | none => s.sessTmo)
        frm := encodeRequest k c sig (v.extractLsb' 0 16)
        rxb := ⟨0, 0, 0, 0, 0, 0, 0, 0⟩
        rxCnt := 0
        txIdx := 0
        att := 1
        st := .tx }
    exec (.sendGet c sig v tmo shape) s = .next (started .get) ∧
    exec (.sendSet c sig v tmo shape) s = .next (started .set) ∧
    exec (.sendPing c sig v tmo shape) s = .next (started .ping)

/-- PING_SYS accepted while the session is Open starts an attempt with the frame `AA 50 53 53 00 00 50 55` (R84, R108). -/
def Obligations.PingSysStartsFirstAttempt : Prop :=
  ∀ (s : State) (tmo : Option Word) (shape : Shape), s.st = .idle → s.sessOpen = true →
    exec (.pingSys tmo shape) s =
      .next
        { s with
          reqSig := .system
          reqShape := shape
          reqTmo := (match tmo with | some w => w | none => s.sessTmo)
          frm := ⟨0xAA, 0x50, 0x53, 0x53, 0x00, 0x00, 0x50, 0x55⟩
          rxb := ⟨0, 0, 0, 0, 0, 0, 0, 0⟩
          rxCnt := 0
          txIdx := 0
          att := 1
          st := .tx }

/-- A command of a defined kind accepted while the session is Closed finishes with NOT_OPEN; its frame is written but not
sent (R102, R160). -/
def Obligations.ClosedSessionFinishesNotOpen : Prop :=
  ∀ (s : State) (c : Channel) (sig : Signal) (v : Word) (tmo : Option Word) (shape : Shape),
    s.st = .idle → s.sessOpen = false → valueInRange v = true →
    let finished (k : Kind) (c : Channel) (sig : Signal) (v : Word) : State :=
      { s with
        reqSig := sig
        reqShape := shape
        reqTmo := (match tmo with | some w => w | none => s.sessTmo)
        frm := encodeRequest k c sig (v.extractLsb' 0 16)
        rxb := ⟨0, 0, 0, 0, 0, 0, 0, 0⟩
        rxCnt := 0
        txIdx := 0
        att := 0
        resCode := .notOpen
        st := .done }
    exec (.sendGet c sig v tmo shape) s = .next (finished .get c sig v) ∧
    exec (.sendSet c sig v tmo shape) s = .next (finished .set c sig v) ∧
    exec (.sendPing c sig v tmo shape) s = .next (finished .ping c sig v) ∧
    exec (.pingSys tmo shape) s = .next (finished .ping .system .system 0)

/-- A command whose value is out of range finishes with VALUE_OUT_OF_RANGE whatever the session's state; `frm` keeps the
last frame (R102, R103, R223). -/
def Obligations.OutOfRangeFinishesUnsent : Prop :=
  ∀ (s : State) (c : Channel) (sig : Signal) (v : Word) (tmo : Option Word) (shape : Shape),
    s.st = .idle → valueInRange v = false →
    let t : State :=
      { s with
        reqSig := sig
        reqShape := shape
        reqTmo := (match tmo with | some w => w | none => s.sessTmo)
        rxb := ⟨0, 0, 0, 0, 0, 0, 0, 0⟩
        rxCnt := 0
        txIdx := 0
        att := 0
        resCode := .valueOutOfRange
        st := .done }
    exec (.sendGet c sig v tmo shape) s = .next t ∧
    exec (.sendSet c sig v tmo shape) s = .next t ∧
    exec (.sendPing c sig v tmo shape) s = .next t

/-- A command of the reserved kind finishes with INVALID_COMMAND whatever its value and the session's state, and sends
nothing (R82, R102, R223). -/
def Obligations.ReservedKindFinishesInvalid : Prop :=
  ∀ (s : State) (c : Channel) (sig : Signal) (v : Word) (tmo : Option Word) (shape : Shape), s.st = .idle →
    exec (.sendInvalid c sig v tmo shape) s =
      .next
        { s with
          reqSig := sig
          reqShape := shape
          reqTmo := (match tmo with | some w => w | none => s.sessTmo)
          rxb := ⟨0, 0, 0, 0, 0, 0, 0, 0⟩
          rxCnt := 0
          txIdx := 0
          att := 0
          resCode := .invalidCommand
          st := .done }

/-! ## Session -/

/-- OPEN in an acting cycle: a Closed session opens with the given timeout when the transport can be acquired, else
`open_fail` pulses; an Open session is left as it is (R161, R164). -/
def Obligations.OpenActs : Prop :=
  ∀ (s : State) (tmo : Word), s.st = .idle →
    exec (.openSession tmo) s =
      .next
        (if s.sessOpen = true then { s with openFail := false }
         else if s.sampled.phyAvail = true then { s with sessOpen := true, sessTmo := tmo, openFail := false }
         else { s with openFail := true })

/-- CLOSE in an acting cycle closes the session and keeps the session timeout (R162). -/
def Obligations.CloseActs : Prop :=
  ∀ s : State, s.st = .idle → exec .closeSession s = .next { s with sessOpen := false, openFail := false }

/-- The host's operations change nothing outside IDLE (R100, R163). That exec answers the unchanged state there is the
model's form of it (log 6). -/
def Obligations.HostOperationsIgnoredWhileBusy : Prop :=
  ∀ (s : State) (c : Channel) (sig : Signal) (v w : Word) (tmo : Option Word) (shape : Shape), s.st ≠ .idle →
    exec (.sendGet c sig v tmo shape) s = .next s ∧ exec (.sendSet c sig v tmo shape) s = .next s ∧
    exec (.sendPing c sig v tmo shape) s = .next s ∧ exec (.pingSys tmo shape) s = .next s ∧
    exec (.sendInvalid c sig v tmo shape) s = .next s ∧ exec (.openSession w) s = .next s ∧
    exec .closeSession s = .next s

/-! ## Transmission -/

/-- A request frame in TX: a stalled transmitter changes nothing; otherwise the byte at `tx_idx` is sent, and after the
eighth the settle delay starts (R109). -/
def Obligations.RequestFrameTransmits : Prop :=
  ∀ (s : State) (c : Channel) (sig : Signal) (v : Half), s.st = .tx →
    let after (f : Frame) : State :=
      if s.sampled.txReady = false then s
      else if s.txIdx = 7 then
        { s with txIdx := 0, tmr := s.par.settleCycles, st := .settle, wire := s.wire ++ [f.b7] }
      else { s with txIdx := s.txIdx + 1, wire := s.wire ++ [f.byte s.txIdx.toNat] }
    exec (.get c sig v) s = .next (after (encodeRequest .get c sig v)) ∧
    exec (.set c sig v) s = .next (after (encodeRequest .set c sig v)) ∧
    exec (.ping c sig v) s = .next (after (encodeRequest .ping c sig v))

/-- With the transmitter ready, eight cycles send the eight bytes of `frm` in offset order and start the settle delay
(R53, R58, R109). The bytes sent are read from the model's `wire` (log 3). -/
def Obligations.EightCyclesSendTheFrame : Prop :=
  ∀ s : State, s.par.legal = true → s.st = .tx → s.txIdx = 0 →
    s.during 8 (fun i => i.noReset && i.txReady) →
    ∃ t, runSteps 8 s = .next t ∧ t.st = .settle ∧ t.wire = s.wire ++ s.frm.toList ∧ t.txIdx = 0 ∧
      t.tmr = s.par.settleCycles ∧ t.frm = s.frm ∧ t.att = s.att

/-- A byte is sent exactly in a cycle with `tx_valid` = 1 and `tx_ready` = 1, and it is the one on `tx_data`; in a reachable
state the session is then Open (R36, R56, R109, R167). That this holds in a reset cycle too is the model's choice
(log 19), and the bytes sent are read from the model's `wire` (log 3). -/
def Obligations.WireGrowsByOfferedByte : Prop :=
  ∀ s t : State, step s = .next t →
    t.wire =
      s.wire ++ (if s.outputs.txValid = true ∧ s.sampled.txReady = true then [s.outputs.txData] else []) ∧
    (s.Inv → t.wire ≠ s.wire → s.sessOpen = true)

/-! ## The step -/

/-- A step runs the instruction its source decodes to: the host word in IDLE, the request buffer in TX, the window in EVAL.
Around it, `open_fail` is cleared before, and the received byte captured and the cycle's inputs used up after. -/
def Obligations.StepRunsDecodedInstruction : Prop :=
  ∀ (s u : State) (i : Instr), s.par.legal = true → s.sampled.rst = false → i.wellFormed = true →
    ((s.st = .idle ∧ decode s.reqShape (.host s.sampled.hostWord s.sampled.operands) = .ok i) ∨
      (s.st = .tx ∧ decode s.reqShape (.request s.frm.toList) = .ok i) ∨
      (s.st = .eval ∧ (s.rxCnt = 8 ∨ (s.rxCnt = 4 ∧ s.par.acceptShort = true)) ∧
        decode s.reqShape (.response s.window) = .ok i)) →
    exec i { s with openFail := false } = .next u → step s = .next (s.capture u).advance

/-- The instruction-level step is the spec's own step function (R180), in every state with legal parameters. The reference
`clockCycle` shares the TX, EVAL and waiting cycles, capture and reset with `step`; it writes out acceptance and the session
on the raw inputs, and uses the raw buffers where `step` runs a decoded form. -/
def Obligations.StepIsTheSpecCycle : Prop :=
  ∀ s : State, s.par.legal = true → step s = .next s.clockCycle

/-- No legal configuration ever stops, and an illegal one has no meaning (R6, R10). -/
def Obligations.LegalConfigurationNeverStops : Prop :=
  ∀ s : State,
    (s.par.legal = true → ∃ t, step s = .next t) ∧ (s.par.legal = false → step s = .refused .illegalConfiguration)

/-- An instruction placed by `withFetchWord` is the one the table word decodes to, and the next step runs it. -/
def Obligations.PlacedWordRunsNext : Prop :=
  ∀ (s : State) (nbits w : Nat) (i : Instr), s.par.legal = true → s.par.acceptShort = true →
    nbits = 16 ∨ nbits = 32 ∨ nbits = 64 → decodeTableWord nbits w = some i →
    ∃ u, exec i (s.withFetchWord nbits w).beginCycle = .next u ∧
      step (s.withFetchWord nbits w) = .next ((s.withFetchWord nbits w).endCycle u)

/-- Reset is synchronous: every register takes its reset value whatever the other inputs and the state, and the outputs
follow (R20, R250). The last clause is the model's choice: `wire` is no register and keeps what was sent (log 3), and the
byte offered in the reset cycle counts as sent if the transmitter is ready (log 19). -/
def Obligations.ResetCycleClearsRegisters : Prop :=
  ∀ s : State, s.par.legal = true → s.sampled.rst = true →
    ∃ t, step s = .next t ∧
      t.st = .idle ∧ t.sessOpen = false ∧ t.sessTmo = 0 ∧ t.openFail = false ∧ t.frm = ⟨0, 0, 0, 0, 0, 0, 0, 0⟩ ∧
      t.reqSig.code = 0 ∧ t.reqShape.bit = false ∧ t.reqTmo = 0 ∧ t.txIdx = 0 ∧ t.rxb = ⟨0, 0, 0, 0, 0, 0, 0, 0⟩ ∧
      t.rxCnt = 0 ∧ t.tmr = 0 ∧ t.att = 0 ∧ t.resCode.code = 0 ∧
      t.outputs.cmdReady = true ∧ t.outputs.busy = false ∧ t.outputs.txValid = false ∧ t.outputs.rspValid = false ∧
      t.outputs.sessOpenO = false ∧ t.outputs.openFail = false ∧
      t.wire = s.wire ++ (if s.outputs.txValid = true ∧ s.sampled.txReady = true then [s.outputs.txData] else [])

/-- The sequencer's next state, every state and every condition (R181). -/
def Obligations.SequencerTransitions : Prop :=
  ∀ s t : State, s.par.legal = true → s.sampled.rst = false → step s = .next t →
    t.st =
      (match s.st with
        | .idle =>
          if s.sampled.cmdValid = true then
            if s.sampled.cmdKind ≠ 3 ∧ valueInRange s.sampled.cmdValue = true ∧ s.sessOpen = true then .tx else .done
          else .idle
        | .tx => if s.sampled.txReady = true ∧ s.txIdx = 7 then .settle else .tx
        | .settle => if s.tmr = 0 then .wait else .settle
        | .wait => if s.rxCnt = 8 ∨ s.tmr = 0 then .eval else .wait
        | .eval =>
          if s.par.retryMask.getLsbD s.evaluation.code.toNat = true ∧ s.att.toNat < s.par.maxAttempts then .rwait
          else .done
        | .rwait => if s.tmr = 0 then .tx else .rwait
        | .done => if s.sampled.rspReady = true then .idle else .done)

/-! ## Reception -/

/-- A byte that arrives in a response window with room is stored at `rxb[rx_cnt]`, also in the last cycle of the window
(R120). -/
def Obligations.WindowStoresByte : Prop :=
  ∀ s t : State, s.sampled.rst = false → s.sampled.rxValid = true → s.st = .tx ∨ s.st = .settle ∨ s.st = .wait →
    s.rxCnt.toNat < 8 → step s = .next t →
    t.rxb = s.rxb.setByte s.rxCnt.toNat s.sampled.rxData ∧ t.rxCnt.toNat = s.rxCnt.toNat + 1

/-- A byte that arrives outside a window, or when the window holds eight bytes, has no effect: the step is the same
whatever the receiver presents. In every state the receiver's lines reach `rxb` and `rx_cnt` only (R57). -/
def Obligations.DroppedByteHasNoEffect : Prop :=
  ∀ (s : State) (i : Inputs) (rest : List Inputs) (v : Bool) (b : Byte), s.env = i :: rest →
    (s.st = .idle ∨ s.st = .eval ∨ s.st = .rwait ∨ s.st = .done ∨ 8 ≤ s.rxCnt.toNat →
      step { s with env := { i with rxValid := v, rxData := b } :: rest } = step s) ∧
    (∀ t u : State, step s = .next t → step { s with env := { i with rxValid := v, rxData := b } :: rest } = .next u →
      u = { t with rxb := u.rxb, rxCnt := u.rxCnt })

/-- Outside IDLE the command and session lines have no effect on the step (R64, R100, R163). -/
def Obligations.HostLinesIgnoredWhileBusy : Prop :=
  ∀ (s : State) (i j : Inputs) (rest : List Inputs), s.st ≠ .idle → s.env = i :: rest →
    step { s with env := i.withHostLines j :: rest } = step s

/-! ## Registers with one writer -/

/-- `open_fail` after a cycle is the formula of R165. -/
def Obligations.OpenFailPulse : Prop :=
  ∀ s t : State, s.sampled.rst = false → step s = .next t →
    (t.openFail = true ↔
      s.st = .idle ∧ s.sampled.cmdValid = false ∧ s.sampled.closeReq = false ∧ s.sampled.openReq = true ∧
        s.sessOpen = false ∧ s.sampled.phyAvail = false)

/-- Outside reset, `sess_tmo` and the opening of the session are written only by a successful OPEN (R161, R166). -/
def Obligations.OnlyOpenWritesSessionTimeout : Prop :=
  ∀ s t : State, s.sampled.rst = false → step s = .next t →
    t.sessTmo ≠ s.sessTmo ∨ (s.sessOpen = false ∧ t.sessOpen = true) →
    s.st = .idle ∧ s.sampled.cmdValid = false ∧ s.sampled.closeReq = false ∧ s.sampled.openReq = true ∧
      s.sessOpen = false ∧ s.sampled.phyAvail = true ∧ t.sessOpen = true ∧ t.sessTmo = s.sampled.openTmo

/-- The session is never closed in the middle of an exchange: outside reset, `sess_open` falls only in an IDLE cycle
without a command in which `close_req` is 1 (R162, R163, R167). -/
def Obligations.OnlyCloseEndsTheSession : Prop :=
  ∀ s t : State, s.sampled.rst = false → step s = .next t → s.sessOpen = true → t.sessOpen = false →
    s.st = .idle ∧ s.sampled.cmdValid = false ∧ s.sampled.closeReq = true

/-- Outside reset, the request frame and the command context are written only when a command is accepted, so every attempt
of a command sends the same bytes and is judged by the same shape and timeout (R25, R64, R110). -/
def Obligations.ContextWrittenOnlyAtAcceptance : Prop :=
  ∀ s t : State, s.sampled.rst = false → step s = .next t →
    t.frm ≠ s.frm ∨ t.reqSig ≠ s.reqSig ∨ t.reqShape ≠ s.reqShape ∨ t.reqTmo ≠ s.reqTmo →
    s.st = .idle ∧ s.sampled.cmdValid = true

/-- The parameters are fixed for the life of an instance (R6). -/
def Obligations.ParametersAreConstant : Prop := ∀ s t : State, step s = .next t → t.par = s.par

/-! ## Results -/

/-- A result is held, with every response output stable, until the host takes it; then the block is IDLE (R188). -/
def Obligations.ResultHeldUntilTaken : Prop :=
  ∀ s : State, s.par.legal = true → s.sampled.rst = false → s.st = .done →
    s.outputs.rspValid = true ∧ s.outputs.cmdReady = false ∧
    (s.sampled.rspReady = false → step s = .next ({ s with openFail := false } : State).advance) ∧
    (s.sampled.rspReady = true → step s = .next ({ s with openFail := false, st := .idle } : State).advance)

/-- A read that is complete with an OKNAK reading is offered two cycles later with its raw value (R184, R185, R147). -/
def Obligations.CompleteReadingIsReported : Prop :=
  ∀ (s : State) (light sig low high : Byte), s.par.legal = true → s.during 2 Inputs.noReset →
    s.st = .wait → s.rxCnt = 8 → s.reqShape = .oknak →
    s.rxb = ⟨0xAA, 0x4F, light, sig, low, high, light ^^^ sig ^^^ low ^^^ high, 0x55⟩ →
    ¬(light = 0x53 ∧ sig = 0x53) →
    ∃ t, runSteps 2 s = .next t ∧ t.outputs.rspValid = true ∧ t.outputs.rspCode = 3 ∧ t.outputs.rspChan = light ∧
      t.outputs.rspSig = sig ∧ t.outputs.rspValue = high ++ low ∧ t.outputs.rspReqSig = s.reqSig.code ∧
      t.outputs.rspAttempts = s.att

/-! ## Timing -/

/-- The parameter values of this hardware (R6): three attempts, the default mask, short frames accepted, and a retry wait of
exactly two seconds of clock cycles. -/
def Obligations.ParameterValuesOfThisHardware : Prop :=
  State.reset.par.maxAttempts = 3 ∧ State.reset.par.retryMask = 0x03F0 ∧ State.reset.par.acceptShort = true ∧
  State.reset.par.legal = true ∧ State.reset.par.retryDelay.toNat + 1 = 2 * State.reset.par.clkHz

/-- SETTLE lasts exactly `tmr + 1` cycles and then WAIT begins with the command's timeout (R183, R193). -/
def Obligations.SettleLastsItsLoad : Prop :=
  ∀ s : State, s.par.legal = true → s.st = .settle → s.during (s.tmr.toNat + 1) Inputs.noReset →
    (∀ k, k ≤ s.tmr.toNat → ∃ u, runSteps k s = .next u ∧ u.st = .settle) ∧
    ∃ t, runSteps (s.tmr.toNat + 1) s = .next t ∧ t.st = .wait ∧ t.tmr = s.reqTmo ∧ t.att = s.att ∧ t.frm = s.frm

/-- RWAIT lasts exactly `tmr + 1` cycles; then the next attempt begins with an empty window and the same frame (R187,
R193, R225). -/
def Obligations.RetryWaitLastsItsLoad : Prop :=
  ∀ s : State, s.par.legal = true → s.st = .rwait → s.during (s.tmr.toNat + 1) Inputs.noReset →
    (∀ k, k ≤ s.tmr.toNat → ∃ u, runSteps k s = .next u ∧ u.st = .rwait) ∧
    ∃ t, runSteps (s.tmr.toNat + 1) s = .next t ∧ t.st = .tx ∧ t.att = s.att + 1 ∧ t.txIdx = 0 ∧ t.rxCnt = 0 ∧
      t.rxb = ⟨0, 0, 0, 0, 0, 0, 0, 0⟩ ∧ t.frm = s.frm ∧ t.reqSig = s.reqSig ∧ t.reqShape = s.reqShape ∧
      t.reqTmo = s.reqTmo

/-- WAIT ends within `tmr + 1` cycles, and it ends early exactly when eight bytes are stored (R184, R193). -/
def Obligations.WaitEndsWithinItsLoad : Prop :=
  ∀ s : State, s.par.legal = true → s.st = .wait → s.during (s.tmr.toNat + 1) Inputs.noReset →
    ∃ n t, 1 ≤ n ∧ n ≤ s.tmr.toNat + 1 ∧ runSteps n s = .next t ∧ t.st = .eval ∧
      (∀ k, k < n → ∃ u, runSteps k s = .next u ∧ u.st = .wait ∧ (k + 1 < n → u.rxCnt ≠ 8)) ∧
      (∀ u, runSteps (n - 1) s = .next u → u.rxCnt = 8 ∨ n = s.tmr.toNat + 1)

/-- Scenario D in cycles: a command none of whose attempts is answered is offered as TIMEOUT and, with `rsp_ready` = 1 in its
first DONE cycle, taken after exactly the number of cycles of R264, all its attempts having sent the same frame (read from
the model's `wire`, log 3); and a command that fails before transmission, with `rsp_ready` = 1 in its DONE cycle, takes two
cycles. -/
def Obligations.UnansweredCommandDuration : Prop :=
  (∀ s : State,
    let i0 := s.inputAt 0
    let T : Word := if i0.cmdTmoOvr then i0.cmdTmo else s.sessTmo
    let A := s.par.maxAttempts
    let total :=
      1 + A * (8 + (s.par.settleCycles.toNat + 1) + (T.toNat + 1) + 1) + (A - 1) * (s.par.retryDelay.toNat + 1) + 1
    s.par.legal = true → s.par.retryMask.getLsbD 9 = true → s.st = .idle → s.sessOpen = true →
    i0.cmdValid = true → i0.cmdKind ≠ 3 → valueInRange i0.cmdValue = true →
    s.during total (fun i => i.noReset && i.txReady && !i.rxValid) → (s.inputAt (total - 1)).rspReady = true →
    (∀ k, 0 < k → k < total → ∃ u, runSteps k s = .next u ∧ u.st ≠ .idle) ∧
    ∃ t, runSteps total s = .next t ∧ t.st = .idle ∧ t.resCode = .timeout ∧ t.att.toNat = A ∧
      isRequestFrame t.frm ∧ t.wire = s.wire ++ (List.replicate A t.frm.toList).flatten) ∧
  (∀ s : State,
    let i0 := s.inputAt 0
    s.par.legal = true → s.st = .idle → i0.cmdValid = true →
    i0.cmdKind = 3 ∨ valueInRange i0.cmdValue = false ∨ s.sessOpen = false →
    s.during 2 Inputs.noReset → (s.inputAt 1).rspReady = true →
    ∃ u t, runSteps 1 s = .next u ∧ u.st = .done ∧ runSteps 2 s = .next t ∧ t.st = .idle ∧ t.wire = s.wire)

/-! ## Invariants -/

/-- The invariant holds after reset. -/
def Obligations.ResetMeetsTheInvariant : Prop := State.reset.Inv

/-- Every step keeps the invariant of the reachable states: R33 and what the rules say of the buffers, the session, the
timer and the result in each state. -/
def Obligations.StepKeepsTheInvariant : Prop := ∀ s t : State, s.Inv → step s = .next t → t.Inv

/-- A state that meets the invariant and is offered a result: its code is a valid response or error of R221, found before
transmission exactly if no attempt was begun, and not one that would still be retried (R186, R190, R226). -/
def Obligations.OfferedResultIsFinal : Prop :=
  ∀ s t : State, s.Inv → step s = .next t → s.st ≠ .done → t.st = .done →
    (s.st = .idle ∧ t.att = 0 ∧ (t.resCode = .invalidCommand ∨ t.resCode = .valueOutOfRange ∨ t.resCode = .notOpen)) ∨
    (s.st = .eval ∧ t.att = s.att ∧ 1 ≤ t.att.toNat ∧ t.att.toNat ≤ s.par.maxAttempts ∧ t.resCode = s.evaluation ∧
      (s.par.retryMask.getLsbD t.resCode.code.toNat = true → t.att.toNat = s.par.maxAttempts))
end

