-- ==== Sys2Proof/Laws/Decode.lean ====
section
/-! SUPPORT. The small lemmas of the code tables, the byte halves and the buffers, and the inversion lemmas of the
decoders: what a decoder has read when it answers an instruction. -/

namespace Sys2Proof

@[simp] theorem Channel.ofCode_code (c : Channel) : Channel.ofCode c.code = c := by cases c <;> decide

@[simp] theorem Channel.ofByte_byte (c : Channel) : Channel.ofByte c.byte = some c := by cases c <;> decide

@[simp] theorem Signal.ofCode_code (s : Signal) : Signal.ofCode s.code = s := by cases s <;> decide

@[simp] theorem Signal.ofByte_byte (s : Signal) : Signal.ofByte s.byte = some s := by cases s <;> decide

@[simp] theorem Shape.ofBit_bit (s : Shape) : Shape.ofBit s.bit = s := by cases s <;> decide

/-- A byte that names a channel is that channel's byte. -/
theorem Channel.byte_of_ofByte {b : Byte} {c : Channel} (h : Channel.ofByte b = some c) : c.byte = b := by
  unfold Channel.ofByte at h
  split_ifs at h <;> cases h <;> simp_all [Channel.byte]

/-- A byte that names a signal is that signal's byte. -/
theorem Signal.byte_of_ofByte {b : Byte} {s : Signal} (h : Signal.ofByte b = some s) : s.byte = b := by
  unfold Signal.ofByte at h
  split_ifs at h <;> cases h <;> simp_all [Signal.byte]

@[simp] theorem lowByte_valueOf (low high : Byte) : lowByte (valueOf low high) = low := by
  simp only [lowByte, valueOf]
  ext i hi
  have h : i < 16 := by omega
  simp [hi, h]

@[simp] theorem highByte_valueOf (low high : Byte) : highByte (valueOf low high) = high := by
  simp only [highByte, valueOf]
  ext i hi
  have h : 8 + i < 16 := by omega
  simp [hi, h]

@[simp] theorem valueOf_bytes (v : Half) : valueOf (lowByte v) (highByte v) = v := by
  simp only [lowByte, highByte, valueOf]
  ext i hi
  by_cases h : i < 8
  · simp [h, hi]
  · have e : 8 + (i - 8) = i := by omega
    have l : i - 8 < 8 := by omega
    simp [h, hi, e, l]

@[simp] theorem Frame.toList_length (f : Frame) : f.toList.length = 8 := rfl

@[simp] theorem Frame.ofList_toList (f : Frame) : Frame.ofList f.toList = f := rfl

theorem Frame.toList_inj {f g : Frame} (h : f.toList = g.toList) : f = g := by
  rw [← f.ofList_toList, h, g.ofList_toList]

/-- The value field of a buffer, by its bytes (`20_memory.md` R51). -/
theorem Frame.value_eq (f : Frame) : f.value = valueOf (f.byte 4) (f.byte 5) := rfl

@[simp] theorem Frame.byte_zero (i : Nat) : Frame.zero.byte i = 0 := by
  unfold Frame.byte
  split <;> rfl

/-- Reading a stored byte gives it back. -/
theorem Frame.byte_setByte_same (f : Frame) (i : Nat) (b : Byte) (h : i < 8) : (f.setByte i b).byte i = b := by
  interval_cases i <;> rfl

/-- Storing a byte leaves the others alone. -/
theorem Frame.byte_setByte_other (f : Frame) (i j : Nat) (b : Byte) (h : i ≠ j) : (f.setByte i b).byte j = f.byte j := by
  unfold Frame.setByte
  split <;> (unfold Frame.byte; split <;> simp_all)

/-- What `requestInstr` has read. -/
theorem requestInstr_ok {b1 : Byte} {c : Channel} {s : Signal} {v : Half} {i : Instr}
    (h : requestInstr b1 c s v = .ok i) :
    (b1 = Kind.get.byte ∧ i = .get c s v) ∨ (b1 = Kind.set.byte ∧ i = .set c s v) ∨
      (b1 = Kind.ping.byte ∧ i = .ping c s v) := by
  unfold requestInstr at h
  split_ifs at h <;> cases h <;> simp_all

/-- The two shapes of a decoded response: a short frame or a full frame, with good markers. -/
theorem frameVerdict_short {bs : List Byte} (h : frameVerdict bs = .short) :
    ∃ b1 b2, bs = [0xAA, b1, b2, 0x55] := by
  unfold frameVerdict at h
  split_ifs at h with h1 h2 h3
  match bs, h3 with
  | [b0, b1, b2, b3], _ =>
    simp at h2
    exact ⟨b1, b2, by simp [h2]⟩

theorem frameVerdict_full {bs : List Byte} (h : frameVerdict bs = .full) :
    ∃ b1 b2 b3 b4 b5 b6, bs = [0xAA, b1, b2, b3, b4, b5, b6, 0x55] := by
  unfold frameVerdict at h
  split_ifs at h with h1 h2 h3 h4
  match bs, h4 with
  | [b0, b1, b2, b3, b4, b5, b6, b7], _ =>
    simp at h2
    exact ⟨b1, b2, b3, b4, b5, b6, by simp [h2]⟩

@[simp] theorem frameVerdict_shortResponse (b1 b2 : Byte) : frameVerdict (shortResponse b1 b2) = .short := by
  simp [frameVerdict, shortResponse]

@[simp] theorem frameVerdict_fullResponse (b1 b2 b3 b4 b5 b6 : Byte) :
    frameVerdict (fullResponse b1 b2 b3 b4 b5 b6) = .full := by
  simp [frameVerdict, fullResponse]

/-- What `decodeResponse` has read: a short frame and its form, or a full frame and its form under the shape. -/
theorem decodeResponse_ok {shape : Shape} {bs : List Byte} {i : Instr} (h : decodeResponse shape bs = .ok i) :
    (∃ b1 b2, bs = shortResponse b1 b2 ∧ shortForm b1 b2 = .ok i) ∨
      (∃ b1 b2 b3 b4 b5 b6, bs = fullResponse b1 b2 b3 b4 b5 b6 ∧ fullForm shape b1 b2 b3 b4 b5 b6 = .ok i) := by
  unfold decodeResponse at h
  split at h
  · rename_i hv
    obtain ⟨c1, c2, hb⟩ := frameVerdict_short hv
    simp only [List.cons.injEq] at hb
    exact .inl ⟨_, _, by simp [shortResponse, hb], h⟩
  · rename_i hv
    obtain ⟨c1, c2, c3, c4, c5, c6, hb⟩ := frameVerdict_full hv
    simp only [List.cons.injEq] at hb
    exact .inr ⟨_, _, _, _, _, _, by simp [fullResponse, hb], h⟩
  · cases h
  · cases h

@[simp] theorem decodeResponse_shortResponse (shape : Shape) (b1 b2 : Byte) :
    decodeResponse shape (shortResponse b1 b2) = shortForm b1 b2 := by
  simp [decodeResponse, shortResponse, frameVerdict]

@[simp] theorem decodeResponse_fullResponse (shape : Shape) (b1 b2 b3 b4 b5 b6 : Byte) :
    decodeResponse shape (fullResponse b1 b2 b3 b4 b5 b6) = fullForm shape b1 b2 b3 b4 b5 b6 := by
  simp [decodeResponse, fullResponse, frameVerdict]

/-- What `shortForm` has read. -/
theorem shortForm_ok {b1 b2 : Byte} {i : Instr} (h : shortForm b1 b2 = .ok i) :
    (b1 = 0x4F ∧ i = .rspShortAck b2) ∨ (b1 = 0x4E ∧ i = .rspShortNak b2) := by
  unfold shortForm at h
  split_ifs at h <;> cases h <;> simp_all

/-- What `fullForm` has read. -/
theorem fullForm_ok {shape : Shape} {b1 b2 b3 b4 b5 b6 : Byte} {i : Instr}
    (h : fullForm shape b1 b2 b3 b4 b5 b6 = .ok i) :
    (b1 = 0x4E ∧ i = .rspNakFull b2 b3 b4 b5 b6) ∨
      (shape = .oknak ∧ b1 = 0x4F ∧ i = okForm b2 b3 b4 b5 b6) ∨
      (shape = .echo ∧ b1 = 0x47 ∧ i = .rspEchoG b2 b3 b4 b5 b6) ∨
      (shape = .echo ∧ b1 = 0x53 ∧ i = .rspEchoS b2 b3 b4 b5 b6) ∨
      (shape = .echo ∧ b1 = 0x50 ∧ i = .rspEchoP b2 b3 b4 b5 b6) := by
  unfold fullForm at h
  cases shape <;> split_ifs at h <;> cases h <;> simp_all

@[simp] theorem hostWord_valid (v : Bool) (k c s : BitVec 2) (o cl : Bool) :
    (hostWord v k c s o cl)[8] = v := by
  revert v k c s o cl; decide

@[simp] theorem hostWord_close (v : Bool) (k c s : BitVec 2) (o cl : Bool) :
    (hostWord v k c s o cl)[0] = cl := by
  revert v k c s o cl; decide

@[simp] theorem hostWord_open (v : Bool) (k c s : BitVec 2) (o cl : Bool) :
    (hostWord v k c s o cl)[1] = o := by
  revert v k c s o cl; decide

@[simp] theorem hostWord_kind (v : Bool) (k c s : BitVec 2) (o cl : Bool) :
    (hostWord v k c s o cl).extractLsb' 6 2 = k := by
  revert v k c s o cl; decide

@[simp] theorem hostWord_chan (v : Bool) (k c s : BitVec 2) (o cl : Bool) :
    (hostWord v k c s o cl).extractLsb' 4 2 = c := by
  revert v k c s o cl; decide

@[simp] theorem hostWord_sig (v : Bool) (k c s : BitVec 2) (o cl : Bool) :
    (hostWord v k c s o cl).extractLsb' 2 2 = s := by
  revert v k c s o cl; decide

@[simp] theorem commandOperands_tmo? (v : Word) (tmo : Option Word) (shape : Shape) :
    (commandOperands v tmo shape).tmo? = tmo := by
  cases tmo <;> rfl

end Sys2Proof
end

