-- ==== Sys2Proof/Laws/State.lean ====
section
/-! SUPPORT. One lemma per register for every plain update of the state, so that no later proof unfolds a record update. -/

namespace Sys2Proof.Machine

variable (s : State)

/-! ### `beginCycle` -/

@[simp] theorem State.beginCycle_st : (s.beginCycle).st = s.st := rfl
@[simp] theorem State.beginCycle_sessOpen : (s.beginCycle).sessOpen = s.sessOpen := rfl
@[simp] theorem State.beginCycle_sessTmo : (s.beginCycle).sessTmo = s.sessTmo := rfl
@[simp] theorem State.beginCycle_openFail : (s.beginCycle).openFail = false := rfl
@[simp] theorem State.beginCycle_frm : (s.beginCycle).frm = s.frm := rfl
@[simp] theorem State.beginCycle_reqSig : (s.beginCycle).reqSig = s.reqSig := rfl
@[simp] theorem State.beginCycle_reqShape : (s.beginCycle).reqShape = s.reqShape := rfl
@[simp] theorem State.beginCycle_reqTmo : (s.beginCycle).reqTmo = s.reqTmo := rfl
@[simp] theorem State.beginCycle_txIdx : (s.beginCycle).txIdx = s.txIdx := rfl
@[simp] theorem State.beginCycle_rxb : (s.beginCycle).rxb = s.rxb := rfl
@[simp] theorem State.beginCycle_rxCnt : (s.beginCycle).rxCnt = s.rxCnt := rfl
@[simp] theorem State.beginCycle_tmr : (s.beginCycle).tmr = s.tmr := rfl
@[simp] theorem State.beginCycle_att : (s.beginCycle).att = s.att := rfl
@[simp] theorem State.beginCycle_resCode : (s.beginCycle).resCode = s.resCode := rfl
@[simp] theorem State.beginCycle_par : (s.beginCycle).par = s.par := rfl
@[simp] theorem State.beginCycle_env : (s.beginCycle).env = s.env := rfl
@[simp] theorem State.beginCycle_cycle : (s.beginCycle).cycle = s.cycle := rfl
@[simp] theorem State.beginCycle_wire : (s.beginCycle).wire = s.wire := rfl
@[simp] theorem State.beginCycle_sampled : (s.beginCycle).sampled = s.sampled := rfl

/-! ### `advance` -/

@[simp] theorem State.advance_st : (s.advance).st = s.st := rfl
@[simp] theorem State.advance_sessOpen : (s.advance).sessOpen = s.sessOpen := rfl
@[simp] theorem State.advance_sessTmo : (s.advance).sessTmo = s.sessTmo := rfl
@[simp] theorem State.advance_openFail : (s.advance).openFail = s.openFail := rfl
@[simp] theorem State.advance_frm : (s.advance).frm = s.frm := rfl
@[simp] theorem State.advance_reqSig : (s.advance).reqSig = s.reqSig := rfl
@[simp] theorem State.advance_reqShape : (s.advance).reqShape = s.reqShape := rfl
@[simp] theorem State.advance_reqTmo : (s.advance).reqTmo = s.reqTmo := rfl
@[simp] theorem State.advance_txIdx : (s.advance).txIdx = s.txIdx := rfl
@[simp] theorem State.advance_rxb : (s.advance).rxb = s.rxb := rfl
@[simp] theorem State.advance_rxCnt : (s.advance).rxCnt = s.rxCnt := rfl
@[simp] theorem State.advance_tmr : (s.advance).tmr = s.tmr := rfl
@[simp] theorem State.advance_att : (s.advance).att = s.att := rfl
@[simp] theorem State.advance_resCode : (s.advance).resCode = s.resCode := rfl
@[simp] theorem State.advance_par : (s.advance).par = s.par := rfl
@[simp] theorem State.advance_env : (s.advance).env = s.env.tail := rfl
@[simp] theorem State.advance_cycle : (s.advance).cycle = s.cycle + 1 := rfl
@[simp] theorem State.advance_wire : (s.advance).wire = s.wire := rfl

/-! ### `storeByte` -/

@[simp] theorem State.storeByte_st (n : BitVec 4) (B : Frame) (b : Byte) : (s.storeByte n B b).st = s.st := rfl
@[simp] theorem State.storeByte_sessOpen (n : BitVec 4) (B : Frame) (b : Byte) : (s.storeByte n B b).sessOpen = s.sessOpen := rfl
@[simp] theorem State.storeByte_sessTmo (n : BitVec 4) (B : Frame) (b : Byte) : (s.storeByte n B b).sessTmo = s.sessTmo := rfl
@[simp] theorem State.storeByte_openFail (n : BitVec 4) (B : Frame) (b : Byte) : (s.storeByte n B b).openFail = s.openFail := rfl
@[simp] theorem State.storeByte_frm (n : BitVec 4) (B : Frame) (b : Byte) : (s.storeByte n B b).frm = s.frm := rfl
@[simp] theorem State.storeByte_reqSig (n : BitVec 4) (B : Frame) (b : Byte) : (s.storeByte n B b).reqSig = s.reqSig := rfl
@[simp] theorem State.storeByte_reqShape (n : BitVec 4) (B : Frame) (b : Byte) : (s.storeByte n B b).reqShape = s.reqShape := rfl
@[simp] theorem State.storeByte_reqTmo (n : BitVec 4) (B : Frame) (b : Byte) : (s.storeByte n B b).reqTmo = s.reqTmo := rfl
@[simp] theorem State.storeByte_txIdx (n : BitVec 4) (B : Frame) (b : Byte) : (s.storeByte n B b).txIdx = s.txIdx := rfl
@[simp] theorem State.storeByte_rxb (n : BitVec 4) (B : Frame) (b : Byte) : (s.storeByte n B b).rxb = B.setByte n.toNat b := rfl
@[simp] theorem State.storeByte_rxCnt (n : BitVec 4) (B : Frame) (b : Byte) : (s.storeByte n B b).rxCnt = n + 1 := rfl
@[simp] theorem State.storeByte_tmr (n : BitVec 4) (B : Frame) (b : Byte) : (s.storeByte n B b).tmr = s.tmr := rfl
@[simp] theorem State.storeByte_att (n : BitVec 4) (B : Frame) (b : Byte) : (s.storeByte n B b).att = s.att := rfl
@[simp] theorem State.storeByte_resCode (n : BitVec 4) (B : Frame) (b : Byte) : (s.storeByte n B b).resCode = s.resCode := rfl
@[simp] theorem State.storeByte_par (n : BitVec 4) (B : Frame) (b : Byte) : (s.storeByte n B b).par = s.par := rfl
@[simp] theorem State.storeByte_env (n : BitVec 4) (B : Frame) (b : Byte) : (s.storeByte n B b).env = s.env := rfl
@[simp] theorem State.storeByte_cycle (n : BitVec 4) (B : Frame) (b : Byte) : (s.storeByte n B b).cycle = s.cycle := rfl
@[simp] theorem State.storeByte_wire (n : BitVec 4) (B : Frame) (b : Byte) : (s.storeByte n B b).wire = s.wire := rfl
@[simp] theorem State.storeByte_sampled (n : BitVec 4) (B : Frame) (b : Byte) : (s.storeByte n B b).sampled = s.sampled := rfl

/-! ### `latch` -/

@[simp] theorem State.latch_st (sg : Signal) (sh : Shape) (w : Word) : (s.latch sg sh w).st = s.st := rfl
@[simp] theorem State.latch_sessOpen (sg : Signal) (sh : Shape) (w : Word) : (s.latch sg sh w).sessOpen = s.sessOpen := rfl
@[simp] theorem State.latch_sessTmo (sg : Signal) (sh : Shape) (w : Word) : (s.latch sg sh w).sessTmo = s.sessTmo := rfl
@[simp] theorem State.latch_openFail (sg : Signal) (sh : Shape) (w : Word) : (s.latch sg sh w).openFail = s.openFail := rfl
@[simp] theorem State.latch_frm (sg : Signal) (sh : Shape) (w : Word) : (s.latch sg sh w).frm = s.frm := rfl
@[simp] theorem State.latch_reqSig (sg : Signal) (sh : Shape) (w : Word) : (s.latch sg sh w).reqSig = sg := rfl
@[simp] theorem State.latch_reqShape (sg : Signal) (sh : Shape) (w : Word) : (s.latch sg sh w).reqShape = sh := rfl
@[simp] theorem State.latch_reqTmo (sg : Signal) (sh : Shape) (w : Word) : (s.latch sg sh w).reqTmo = w := rfl
@[simp] theorem State.latch_txIdx (sg : Signal) (sh : Shape) (w : Word) : (s.latch sg sh w).txIdx = 0 := rfl
@[simp] theorem State.latch_rxb (sg : Signal) (sh : Shape) (w : Word) : (s.latch sg sh w).rxb = Frame.zero := rfl
@[simp] theorem State.latch_rxCnt (sg : Signal) (sh : Shape) (w : Word) : (s.latch sg sh w).rxCnt = 0 := rfl
@[simp] theorem State.latch_tmr (sg : Signal) (sh : Shape) (w : Word) : (s.latch sg sh w).tmr = s.tmr := rfl
@[simp] theorem State.latch_att (sg : Signal) (sh : Shape) (w : Word) : (s.latch sg sh w).att = s.att := rfl
@[simp] theorem State.latch_resCode (sg : Signal) (sh : Shape) (w : Word) : (s.latch sg sh w).resCode = s.resCode := rfl
@[simp] theorem State.latch_par (sg : Signal) (sh : Shape) (w : Word) : (s.latch sg sh w).par = s.par := rfl
@[simp] theorem State.latch_env (sg : Signal) (sh : Shape) (w : Word) : (s.latch sg sh w).env = s.env := rfl
@[simp] theorem State.latch_cycle (sg : Signal) (sh : Shape) (w : Word) : (s.latch sg sh w).cycle = s.cycle := rfl
@[simp] theorem State.latch_wire (sg : Signal) (sh : Shape) (w : Word) : (s.latch sg sh w).wire = s.wire := rfl
@[simp] theorem State.latch_sampled (sg : Signal) (sh : Shape) (w : Word) : (s.latch sg sh w).sampled = s.sampled := rfl

/-! ### `startAttempt` -/

@[simp] theorem State.startAttempt_st (a : Byte) : (s.startAttempt a).st = .tx := rfl
@[simp] theorem State.startAttempt_sessOpen (a : Byte) : (s.startAttempt a).sessOpen = s.sessOpen := rfl
@[simp] theorem State.startAttempt_sessTmo (a : Byte) : (s.startAttempt a).sessTmo = s.sessTmo := rfl
@[simp] theorem State.startAttempt_openFail (a : Byte) : (s.startAttempt a).openFail = s.openFail := rfl
@[simp] theorem State.startAttempt_frm (a : Byte) : (s.startAttempt a).frm = s.frm := rfl
@[simp] theorem State.startAttempt_reqSig (a : Byte) : (s.startAttempt a).reqSig = s.reqSig := rfl
@[simp] theorem State.startAttempt_reqShape (a : Byte) : (s.startAttempt a).reqShape = s.reqShape := rfl
@[simp] theorem State.startAttempt_reqTmo (a : Byte) : (s.startAttempt a).reqTmo = s.reqTmo := rfl
@[simp] theorem State.startAttempt_txIdx (a : Byte) : (s.startAttempt a).txIdx = 0 := rfl
@[simp] theorem State.startAttempt_rxb (a : Byte) : (s.startAttempt a).rxb = Frame.zero := rfl
@[simp] theorem State.startAttempt_rxCnt (a : Byte) : (s.startAttempt a).rxCnt = 0 := rfl
@[simp] theorem State.startAttempt_tmr (a : Byte) : (s.startAttempt a).tmr = s.tmr := rfl
@[simp] theorem State.startAttempt_att (a : Byte) : (s.startAttempt a).att = a := rfl
@[simp] theorem State.startAttempt_resCode (a : Byte) : (s.startAttempt a).resCode = s.resCode := rfl
@[simp] theorem State.startAttempt_par (a : Byte) : (s.startAttempt a).par = s.par := rfl
@[simp] theorem State.startAttempt_env (a : Byte) : (s.startAttempt a).env = s.env := rfl
@[simp] theorem State.startAttempt_cycle (a : Byte) : (s.startAttempt a).cycle = s.cycle := rfl
@[simp] theorem State.startAttempt_wire (a : Byte) : (s.startAttempt a).wire = s.wire := rfl
@[simp] theorem State.startAttempt_sampled (a : Byte) : (s.startAttempt a).sampled = s.sampled := rfl

/-! ### `finish` -/

@[simp] theorem State.finish_st (c : ResultCode) : (s.finish c).st = .done := rfl
@[simp] theorem State.finish_sessOpen (c : ResultCode) : (s.finish c).sessOpen = s.sessOpen := rfl
@[simp] theorem State.finish_sessTmo (c : ResultCode) : (s.finish c).sessTmo = s.sessTmo := rfl
@[simp] theorem State.finish_openFail (c : ResultCode) : (s.finish c).openFail = s.openFail := rfl
@[simp] theorem State.finish_frm (c : ResultCode) : (s.finish c).frm = s.frm := rfl
@[simp] theorem State.finish_reqSig (c : ResultCode) : (s.finish c).reqSig = s.reqSig := rfl
@[simp] theorem State.finish_reqShape (c : ResultCode) : (s.finish c).reqShape = s.reqShape := rfl
@[simp] theorem State.finish_reqTmo (c : ResultCode) : (s.finish c).reqTmo = s.reqTmo := rfl
@[simp] theorem State.finish_txIdx (c : ResultCode) : (s.finish c).txIdx = s.txIdx := rfl
@[simp] theorem State.finish_rxb (c : ResultCode) : (s.finish c).rxb = s.rxb := rfl
@[simp] theorem State.finish_rxCnt (c : ResultCode) : (s.finish c).rxCnt = s.rxCnt := rfl
@[simp] theorem State.finish_tmr (c : ResultCode) : (s.finish c).tmr = s.tmr := rfl
@[simp] theorem State.finish_att (c : ResultCode) : (s.finish c).att = s.att := rfl
@[simp] theorem State.finish_resCode (c : ResultCode) : (s.finish c).resCode = c := rfl
@[simp] theorem State.finish_par (c : ResultCode) : (s.finish c).par = s.par := rfl
@[simp] theorem State.finish_env (c : ResultCode) : (s.finish c).env = s.env := rfl
@[simp] theorem State.finish_cycle (c : ResultCode) : (s.finish c).cycle = s.cycle := rfl
@[simp] theorem State.finish_wire (c : ResultCode) : (s.finish c).wire = s.wire := rfl
@[simp] theorem State.finish_sampled (c : ResultCode) : (s.finish c).sampled = s.sampled := rfl

/-! ### `finishUnsent` -/

@[simp] theorem State.finishUnsent_st (c : ResultCode) : (s.finishUnsent c).st = .done := rfl
@[simp] theorem State.finishUnsent_sessOpen (c : ResultCode) : (s.finishUnsent c).sessOpen = s.sessOpen := rfl
@[simp] theorem State.finishUnsent_sessTmo (c : ResultCode) : (s.finishUnsent c).sessTmo = s.sessTmo := rfl
@[simp] theorem State.finishUnsent_openFail (c : ResultCode) : (s.finishUnsent c).openFail = s.openFail := rfl
@[simp] theorem State.finishUnsent_frm (c : ResultCode) : (s.finishUnsent c).frm = s.frm := rfl
@[simp] theorem State.finishUnsent_reqSig (c : ResultCode) : (s.finishUnsent c).reqSig = s.reqSig := rfl
@[simp] theorem State.finishUnsent_reqShape (c : ResultCode) : (s.finishUnsent c).reqShape = s.reqShape := rfl
@[simp] theorem State.finishUnsent_reqTmo (c : ResultCode) : (s.finishUnsent c).reqTmo = s.reqTmo := rfl
@[simp] theorem State.finishUnsent_txIdx (c : ResultCode) : (s.finishUnsent c).txIdx = s.txIdx := rfl
@[simp] theorem State.finishUnsent_rxb (c : ResultCode) : (s.finishUnsent c).rxb = s.rxb := rfl
@[simp] theorem State.finishUnsent_rxCnt (c : ResultCode) : (s.finishUnsent c).rxCnt = s.rxCnt := rfl
@[simp] theorem State.finishUnsent_tmr (c : ResultCode) : (s.finishUnsent c).tmr = s.tmr := rfl
@[simp] theorem State.finishUnsent_att (c : ResultCode) : (s.finishUnsent c).att = 0 := rfl
@[simp] theorem State.finishUnsent_resCode (c : ResultCode) : (s.finishUnsent c).resCode = c := rfl
@[simp] theorem State.finishUnsent_par (c : ResultCode) : (s.finishUnsent c).par = s.par := rfl
@[simp] theorem State.finishUnsent_env (c : ResultCode) : (s.finishUnsent c).env = s.env := rfl
@[simp] theorem State.finishUnsent_cycle (c : ResultCode) : (s.finishUnsent c).cycle = s.cycle := rfl
@[simp] theorem State.finishUnsent_wire (c : ResultCode) : (s.finishUnsent c).wire = s.wire := rfl
@[simp] theorem State.finishUnsent_sampled (c : ResultCode) : (s.finishUnsent c).sampled = s.sampled := rfl

/-! ### `setFrame` -/

@[simp] theorem State.setFrame_st (f : Frame) : (s.setFrame f).st = s.st := rfl
@[simp] theorem State.setFrame_sessOpen (f : Frame) : (s.setFrame f).sessOpen = s.sessOpen := rfl
@[simp] theorem State.setFrame_sessTmo (f : Frame) : (s.setFrame f).sessTmo = s.sessTmo := rfl
@[simp] theorem State.setFrame_openFail (f : Frame) : (s.setFrame f).openFail = s.openFail := rfl
@[simp] theorem State.setFrame_frm (f : Frame) : (s.setFrame f).frm = f := rfl
@[simp] theorem State.setFrame_reqSig (f : Frame) : (s.setFrame f).reqSig = s.reqSig := rfl
@[simp] theorem State.setFrame_reqShape (f : Frame) : (s.setFrame f).reqShape = s.reqShape := rfl
@[simp] theorem State.setFrame_reqTmo (f : Frame) : (s.setFrame f).reqTmo = s.reqTmo := rfl
@[simp] theorem State.setFrame_txIdx (f : Frame) : (s.setFrame f).txIdx = s.txIdx := rfl
@[simp] theorem State.setFrame_rxb (f : Frame) : (s.setFrame f).rxb = s.rxb := rfl
@[simp] theorem State.setFrame_rxCnt (f : Frame) : (s.setFrame f).rxCnt = s.rxCnt := rfl
@[simp] theorem State.setFrame_tmr (f : Frame) : (s.setFrame f).tmr = s.tmr := rfl
@[simp] theorem State.setFrame_att (f : Frame) : (s.setFrame f).att = s.att := rfl
@[simp] theorem State.setFrame_resCode (f : Frame) : (s.setFrame f).resCode = s.resCode := rfl
@[simp] theorem State.setFrame_par (f : Frame) : (s.setFrame f).par = s.par := rfl
@[simp] theorem State.setFrame_env (f : Frame) : (s.setFrame f).env = s.env := rfl
@[simp] theorem State.setFrame_cycle (f : Frame) : (s.setFrame f).cycle = s.cycle := rfl
@[simp] theorem State.setFrame_wire (f : Frame) : (s.setFrame f).wire = s.wire := rfl
@[simp] theorem State.setFrame_sampled (f : Frame) : (s.setFrame f).sampled = s.sampled := rfl

/-! ### `send` -/

@[simp] theorem State.send_st (b : Byte) : (s.send b).st = s.st := rfl
@[simp] theorem State.send_sessOpen (b : Byte) : (s.send b).sessOpen = s.sessOpen := rfl
@[simp] theorem State.send_sessTmo (b : Byte) : (s.send b).sessTmo = s.sessTmo := rfl
@[simp] theorem State.send_openFail (b : Byte) : (s.send b).openFail = s.openFail := rfl
@[simp] theorem State.send_frm (b : Byte) : (s.send b).frm = s.frm := rfl
@[simp] theorem State.send_reqSig (b : Byte) : (s.send b).reqSig = s.reqSig := rfl
@[simp] theorem State.send_reqShape (b : Byte) : (s.send b).reqShape = s.reqShape := rfl
@[simp] theorem State.send_reqTmo (b : Byte) : (s.send b).reqTmo = s.reqTmo := rfl
@[simp] theorem State.send_txIdx (b : Byte) : (s.send b).txIdx = s.txIdx := rfl
@[simp] theorem State.send_rxb (b : Byte) : (s.send b).rxb = s.rxb := rfl
@[simp] theorem State.send_rxCnt (b : Byte) : (s.send b).rxCnt = s.rxCnt := rfl
@[simp] theorem State.send_tmr (b : Byte) : (s.send b).tmr = s.tmr := rfl
@[simp] theorem State.send_att (b : Byte) : (s.send b).att = s.att := rfl
@[simp] theorem State.send_resCode (b : Byte) : (s.send b).resCode = s.resCode := rfl
@[simp] theorem State.send_par (b : Byte) : (s.send b).par = s.par := rfl
@[simp] theorem State.send_env (b : Byte) : (s.send b).env = s.env := rfl
@[simp] theorem State.send_cycle (b : Byte) : (s.send b).cycle = s.cycle := rfl
@[simp] theorem State.send_wire (b : Byte) : (s.send b).wire = s.wire ++ [b] := rfl
@[simp] theorem State.send_sampled (b : Byte) : (s.send b).sampled = s.sampled := rfl

/-! ### `retry` -/

@[simp] theorem State.retry_st (c : ResultCode) : (s.retry c).st = .rwait := rfl
@[simp] theorem State.retry_sessOpen (c : ResultCode) : (s.retry c).sessOpen = s.sessOpen := rfl
@[simp] theorem State.retry_sessTmo (c : ResultCode) : (s.retry c).sessTmo = s.sessTmo := rfl
@[simp] theorem State.retry_openFail (c : ResultCode) : (s.retry c).openFail = s.openFail := rfl
@[simp] theorem State.retry_frm (c : ResultCode) : (s.retry c).frm = s.frm := rfl
@[simp] theorem State.retry_reqSig (c : ResultCode) : (s.retry c).reqSig = s.reqSig := rfl
@[simp] theorem State.retry_reqShape (c : ResultCode) : (s.retry c).reqShape = s.reqShape := rfl
@[simp] theorem State.retry_reqTmo (c : ResultCode) : (s.retry c).reqTmo = s.reqTmo := rfl
@[simp] theorem State.retry_txIdx (c : ResultCode) : (s.retry c).txIdx = s.txIdx := rfl
@[simp] theorem State.retry_rxb (c : ResultCode) : (s.retry c).rxb = s.rxb := rfl
@[simp] theorem State.retry_rxCnt (c : ResultCode) : (s.retry c).rxCnt = s.rxCnt := rfl
@[simp] theorem State.retry_tmr (c : ResultCode) : (s.retry c).tmr = s.par.retryDelay := rfl
@[simp] theorem State.retry_att (c : ResultCode) : (s.retry c).att = s.att := rfl
@[simp] theorem State.retry_resCode (c : ResultCode) : (s.retry c).resCode = c := rfl
@[simp] theorem State.retry_par (c : ResultCode) : (s.retry c).par = s.par := rfl
@[simp] theorem State.retry_env (c : ResultCode) : (s.retry c).env = s.env := rfl
@[simp] theorem State.retry_cycle (c : ResultCode) : (s.retry c).cycle = s.cycle := rfl
@[simp] theorem State.retry_wire (c : ResultCode) : (s.retry c).wire = s.wire := rfl
@[simp] theorem State.retry_sampled (c : ResultCode) : (s.retry c).sampled = s.sampled := rfl

/-! ### `closeSession` -/

@[simp] theorem State.closeSession_st : (s.closeSession).st = s.st := rfl
@[simp] theorem State.closeSession_sessOpen : (s.closeSession).sessOpen = false := rfl
@[simp] theorem State.closeSession_sessTmo : (s.closeSession).sessTmo = s.sessTmo := rfl
@[simp] theorem State.closeSession_openFail : (s.closeSession).openFail = false := rfl
@[simp] theorem State.closeSession_frm : (s.closeSession).frm = s.frm := rfl
@[simp] theorem State.closeSession_reqSig : (s.closeSession).reqSig = s.reqSig := rfl
@[simp] theorem State.closeSession_reqShape : (s.closeSession).reqShape = s.reqShape := rfl
@[simp] theorem State.closeSession_reqTmo : (s.closeSession).reqTmo = s.reqTmo := rfl
@[simp] theorem State.closeSession_txIdx : (s.closeSession).txIdx = s.txIdx := rfl
@[simp] theorem State.closeSession_rxb : (s.closeSession).rxb = s.rxb := rfl
@[simp] theorem State.closeSession_rxCnt : (s.closeSession).rxCnt = s.rxCnt := rfl
@[simp] theorem State.closeSession_tmr : (s.closeSession).tmr = s.tmr := rfl
@[simp] theorem State.closeSession_att : (s.closeSession).att = s.att := rfl
@[simp] theorem State.closeSession_resCode : (s.closeSession).resCode = s.resCode := rfl
@[simp] theorem State.closeSession_par : (s.closeSession).par = s.par := rfl
@[simp] theorem State.closeSession_env : (s.closeSession).env = s.env := rfl
@[simp] theorem State.closeSession_cycle : (s.closeSession).cycle = s.cycle := rfl
@[simp] theorem State.closeSession_wire : (s.closeSession).wire = s.wire := rfl
@[simp] theorem State.closeSession_sampled : (s.closeSession).sampled = s.sampled := rfl

/-! ### `resetRegisters` -/

@[simp] theorem State.resetRegisters_st : (s.resetRegisters).st = .idle := rfl
@[simp] theorem State.resetRegisters_sessOpen : (s.resetRegisters).sessOpen = false := rfl
@[simp] theorem State.resetRegisters_sessTmo : (s.resetRegisters).sessTmo = 0 := rfl
@[simp] theorem State.resetRegisters_openFail : (s.resetRegisters).openFail = false := rfl
@[simp] theorem State.resetRegisters_frm : (s.resetRegisters).frm = Frame.zero := rfl
@[simp] theorem State.resetRegisters_reqSig : (s.resetRegisters).reqSig = .pwm := rfl
@[simp] theorem State.resetRegisters_reqShape : (s.resetRegisters).reqShape = .oknak := rfl
@[simp] theorem State.resetRegisters_reqTmo : (s.resetRegisters).reqTmo = 0 := rfl
@[simp] theorem State.resetRegisters_txIdx : (s.resetRegisters).txIdx = 0 := rfl
@[simp] theorem State.resetRegisters_rxb : (s.resetRegisters).rxb = Frame.zero := rfl
@[simp] theorem State.resetRegisters_rxCnt : (s.resetRegisters).rxCnt = 0 := rfl
@[simp] theorem State.resetRegisters_tmr : (s.resetRegisters).tmr = 0 := rfl
@[simp] theorem State.resetRegisters_att : (s.resetRegisters).att = 0 := rfl
@[simp] theorem State.resetRegisters_resCode : (s.resetRegisters).resCode = .ack := rfl
@[simp] theorem State.resetRegisters_par : (s.resetRegisters).par = s.par := rfl
@[simp] theorem State.resetRegisters_env : (s.resetRegisters).env = s.env := rfl
@[simp] theorem State.resetRegisters_cycle : (s.resetRegisters).cycle = s.cycle := rfl
@[simp] theorem State.resetRegisters_wire : (s.resetRegisters).wire = s.wire ++ s.linkTransfer := rfl
@[simp] theorem State.resetRegisters_sampled : (s.resetRegisters).sampled = s.sampled := rfl

end Sys2Proof.Machine
end

