-- ==== Sys2Proof/Laws/Ops.lean ====
section
/-! SUPPORT. For each shared operation with cases, one lemma that says once everything it can do; and what the cycle's end
leaves alone. -/

namespace Sys2Proof.Machine

variable (s t : State)

/-- Capture stores the received byte or changes nothing (`41_decoder.md` R120, R121). -/
theorem State.capture_cases :
    (s.captures = true ∧ s.capture t = t.storeByte s.rxCnt s.rxb s.sampled.rxData) ∨
      (s.captures = false ∧ s.capture t = t) := by
  unfold State.capture
  cases s.captures <;> simp

@[simp] theorem State.capture_of_captures (h : s.captures = true) :
    s.capture t = t.storeByte s.rxCnt s.rxb s.sampled.rxData := by simp [State.capture, h]

@[simp] theorem State.capture_of_not_captures (h : s.captures = false) : s.capture t = t := by simp [State.capture, h]

/-- A byte is captured only in a window that has room. -/
theorem State.captures_iff :
    s.captures = true ↔ s.sampled.rxValid = true ∧ s.st.receiving = true ∧ s.rxCnt.toNat < 8 := by
  simp [State.captures, and_assoc]

@[simp] theorem State.endCycle_st : (s.endCycle t).st = t.st := by unfold endCycle capture; split <;> rfl
@[simp] theorem State.endCycle_sessOpen : (s.endCycle t).sessOpen = t.sessOpen := by unfold endCycle capture; split <;> rfl
@[simp] theorem State.endCycle_sessTmo : (s.endCycle t).sessTmo = t.sessTmo := by unfold endCycle capture; split <;> rfl
@[simp] theorem State.endCycle_openFail : (s.endCycle t).openFail = t.openFail := by unfold endCycle capture; split <;> rfl
@[simp] theorem State.endCycle_frm : (s.endCycle t).frm = t.frm := by unfold endCycle capture; split <;> rfl
@[simp] theorem State.endCycle_reqSig : (s.endCycle t).reqSig = t.reqSig := by unfold endCycle capture; split <;> rfl
@[simp] theorem State.endCycle_reqShape : (s.endCycle t).reqShape = t.reqShape := by unfold endCycle capture; split <;> rfl
@[simp] theorem State.endCycle_reqTmo : (s.endCycle t).reqTmo = t.reqTmo := by unfold endCycle capture; split <;> rfl
@[simp] theorem State.endCycle_txIdx : (s.endCycle t).txIdx = t.txIdx := by unfold endCycle capture; split <;> rfl
@[simp] theorem State.endCycle_tmr : (s.endCycle t).tmr = t.tmr := by unfold endCycle capture; split <;> rfl
@[simp] theorem State.endCycle_att : (s.endCycle t).att = t.att := by unfold endCycle capture; split <;> rfl
@[simp] theorem State.endCycle_resCode : (s.endCycle t).resCode = t.resCode := by unfold endCycle capture; split <;> rfl
@[simp] theorem State.endCycle_par : (s.endCycle t).par = t.par := by unfold endCycle capture; split <;> rfl
@[simp] theorem State.endCycle_env : (s.endCycle t).env = t.env.tail := by unfold endCycle capture; split <;> rfl
@[simp] theorem State.endCycle_cycle : (s.endCycle t).cycle = t.cycle + 1 := by unfold endCycle capture; split <;> rfl
@[simp] theorem State.endCycle_wire : (s.endCycle t).wire = t.wire := by unfold endCycle capture; split <;> rfl

theorem State.endCycle_rxb :
    (s.endCycle t).rxb = if s.captures then s.rxb.setByte s.rxCnt.toNat s.sampled.rxData else t.rxb := by
  unfold endCycle capture; split <;> rfl

theorem State.endCycle_rxCnt : (s.endCycle t).rxCnt = if s.captures then s.rxCnt + 1 else t.rxCnt := by
  unfold endCycle capture; split <;> rfl

/-- The transmit stream moves the byte at `tx_idx` in a ready TX cycle, and nothing else ever (`20_memory.md` R56). -/
theorem State.linkTransfer_cases :
    (s.st = .tx ∧ s.sampled.txReady = true ∧ s.linkTransfer = [s.frm.byte s.txIdx.toNat]) ∨
      (¬(s.st = .tx ∧ s.sampled.txReady = true) ∧ s.linkTransfer = []) := by
  by_cases h : s.st = .tx ∧ s.sampled.txReady = true
  · exact .inl ⟨h.1, h.2, if_pos h⟩
  · exact .inr ⟨h, if_neg h⟩

/-- A TX cycle stalls, sends a byte, or sends the last byte and starts the settle delay (`40_encoder.md` R109). -/
theorem State.txCycle_cases (b : Byte) :
    (s.sampled.txReady = false ∧ s.txCycle b = s) ∨
      (s.sampled.txReady = true ∧ s.txIdx = 7 ∧
        s.txCycle b = { s.send b with txIdx := 0, tmr := s.par.settleCycles, st := .settle }) ∨
      (s.sampled.txReady = true ∧ s.txIdx ≠ 7 ∧ s.txCycle b = { s.send b with txIdx := s.txIdx + 1 }) := by
  unfold State.txCycle
  by_cases h : s.sampled.txReady = true
  · rw [if_pos h]
    by_cases h7 : s.txIdx = 7
    · exact .inr (.inl ⟨h, h7, if_pos h7⟩)
    · exact .inr (.inr ⟨h, h7, if_neg h7⟩)
  · exact .inl ⟨Bool.eq_false_iff.mpr h, if_neg h⟩

/-- A TX cycle with its own byte records what the transmit stream moves. -/
theorem State.txCycle_wire (h : s.st = .tx) :
    (s.txCycle (s.frm.byte s.txIdx.toNat)).wire = s.wire ++ s.linkTransfer := by
  rcases s.txCycle_cases (s.frm.byte s.txIdx.toNat) with ⟨hr, e⟩ | ⟨hr, _, e⟩ | ⟨hr, _, e⟩ <;>
    simp [e, State.linkTransfer, h, hr]

/-- The settle delay counts down or ends (`44_sequencer.md` R183). -/
theorem State.settleCycle_cases :
    (s.tmr = 0 ∧ s.settleCycle = { s with tmr := s.reqTmo, st := .wait }) ∨
      (s.tmr ≠ 0 ∧ s.settleCycle = { s with tmr := s.tmr - 1 }) := by
  by_cases h : s.tmr = 0
  · exact .inl ⟨h, if_pos h⟩
  · exact .inr ⟨h, if_neg h⟩

/-- The read ends, complete or timed out, or counts down (R184). -/
theorem State.waitCycle_cases :
    ((s.rxCnt = 8 ∨ s.tmr = 0) ∧ s.waitCycle = { s with st := .eval }) ∨
      (s.rxCnt ≠ 8 ∧ s.tmr ≠ 0 ∧ s.waitCycle = { s with tmr := s.tmr - 1 }) := by
  by_cases h : s.rxCnt = 8 ∨ s.tmr = 0
  · exact .inl ⟨h, if_pos h⟩
  · exact .inr ⟨fun e => h (.inl e), fun e => h (.inr e), if_neg h⟩

/-- The retry wait counts down or starts the next attempt (R187). -/
theorem State.rwaitCycle_cases :
    (s.tmr = 0 ∧ s.rwaitCycle = s.startAttempt (s.att + 1)) ∨
      (s.tmr ≠ 0 ∧ s.rwaitCycle = { s with tmr := s.tmr - 1 }) := by
  by_cases h : s.tmr = 0
  · exact .inl ⟨h, if_pos h⟩
  · exact .inr ⟨h, if_neg h⟩

/-- A result is held or taken (R188). -/
theorem State.doneCycle_cases :
    (s.sampled.rspReady = false ∧ s.doneCycle = s) ∨
      (s.sampled.rspReady = true ∧ s.doneCycle = { s with st := .idle }) := by
  unfold State.doneCycle
  cases s.sampled.rspReady <;> simp

/-- An evaluation retries or finishes (R186). -/
theorem State.evalCycle_cases (c : ResultCode) :
    (s.retries c = true ∧ s.evalCycle c = s.retry c) ∨ (s.retries c = false ∧ s.evalCycle c = s.finish c) := by
  unfold State.evalCycle
  cases s.retries c <;> simp

/-- The outcomes of accepting a command of a defined kind (R102). -/
theorem State.acceptCommand_cases (k : Kind) (c : Channel) (sig : Signal) (v : Word) (tmo : Option Word) (shape : Shape) :
    (valueInRange v = false ∧
      s.acceptCommand k c sig v tmo shape =
        (s.latch sig shape (s.readTimeout tmo)).finishUnsent .valueOutOfRange) ∨
      (valueInRange v = true ∧ s.sessOpen = false ∧
        s.acceptCommand k c sig v tmo shape =
          ((s.latch sig shape (s.readTimeout tmo)).setFrame (encodeRequest k c sig (rawValue v))).finishUnsent .notOpen) ∨
      (valueInRange v = true ∧ s.sessOpen = true ∧
        s.acceptCommand k c sig v tmo shape =
          ((s.latch sig shape (s.readTimeout tmo)).setFrame (encodeRequest k c sig (rawValue v))).startAttempt 1) := by
  unfold State.acceptCommand
  cases valueInRange v <;> cases s.sessOpen <;> simp

/-- OPEN is ignored while Open, succeeds, or fails (`43_session.md` R161, R164, R165). -/
theorem State.openSession_cases (tmo : Word) :
    (s.sessOpen = true ∧ s.openSession tmo = { s with openFail := false }) ∨
      (s.sessOpen = false ∧ s.sampled.phyAvail = true ∧
        s.openSession tmo = { s with sessOpen := true, sessTmo := tmo, openFail := false }) ∨
      (s.sessOpen = false ∧ s.sampled.phyAvail = false ∧ s.openSession tmo = { s with openFail := true }) := by
  unfold State.openSession
  cases s.sessOpen <;> cases s.sampled.phyAvail <;> simp

/-- The legal values of the parameters (`00_scope.md` R6). -/
theorem legal_iff (p : Params) :
    p.legal = true ↔ 1 ≤ p.maxAttempts ∧ p.maxAttempts ≤ 255 ∧ 0 < p.clkHz ∧ p.retryMask &&& 0xFC0F = 0 := by
  simp [Params.legal, and_assoc]

end Sys2Proof.Machine
end

