-- ==== Sys2Proof/Laws/Exec.lean ====
section
/-! SUPPORT. What a meaning can do: every instruction of the block answers a next state, and none touches the parameters,
the inputs to come or the cycle count. -/

namespace Sys2Proof.Machine

/-- The model's own fields that no instruction changes. -/
def sameRun (s t : State) : Prop := t.par = s.par ∧ t.env = s.env ∧ t.cycle = s.cycle

theorem sameRun_refl (s : State) : sameRun s s := ⟨rfl, rfl, rfl⟩

/-- Two states of the same cycle sample the same inputs. -/
theorem sampled_of_sameRun {s t : State} (h : sameRun s t) : t.sampled = s.sampled := by
  unfold State.sampled
  rw [h.2.1, h.2.2]

theorem txCycle_sameRun (s : State) (b : Byte) : sameRun s (s.txCycle b) := by
  obtain ⟨_, h⟩ | ⟨_, _, h⟩ | ⟨_, _, h⟩ := s.txCycle_cases b <;> rw [h] <;> exact ⟨rfl, rfl, rfl⟩

theorem evalCycle_sameRun (s : State) (c : ResultCode) : sameRun s (s.evalCycle c) := by
  obtain ⟨_, h⟩ | ⟨_, h⟩ := s.evalCycle_cases c <;> rw [h] <;> exact ⟨rfl, rfl, rfl⟩

theorem offerFrame_sameRun (s : State) (f : Frame) : sameRun s (s.offerFrame f) := by
  unfold State.offerFrame
  split
  · exact txCycle_sameRun s _
  · exact sameRun_refl s

theorem evaluateAs_sameRun (s : State) (c : ResultCode) : sameRun s (s.evaluateAs c) := by
  unfold State.evaluateAs
  split
  · exact evalCycle_sameRun s c
  · exact sameRun_refl s

theorem acceptCommand_sameRun (s : State) (k : Kind) (c : Channel) (sig : Signal) (v : Word) (tmo : Option Word)
    (shape : Shape) : sameRun s (s.acceptCommand k c sig v tmo shape) := by
  obtain ⟨_, h⟩ | ⟨_, _, h⟩ | ⟨_, _, h⟩ := s.acceptCommand_cases k c sig v tmo shape <;> rw [h] <;> exact ⟨rfl, rfl, rfl⟩

theorem openSession_sameRun (s : State) (tmo : Word) : sameRun s (s.openSession tmo) := by
  obtain ⟨_, h⟩ | ⟨_, _, h⟩ | ⟨_, _, h⟩ := s.openSession_cases tmo <;> rw [h] <;> exact ⟨rfl, rfl, rfl⟩

/-- The sequencer without an instruction keeps the model's own fields. -/
theorem sequence_sameRun (s : State) : sameRun s s.sequence := by
  unfold State.sequence
  split
  · exact sameRun_refl s
  · exact txCycle_sameRun s _
  · obtain ⟨_, h⟩ | ⟨_, h⟩ := s.settleCycle_cases <;> rw [h] <;> exact ⟨rfl, rfl, rfl⟩
  · obtain ⟨_, h⟩ | ⟨_, _, h⟩ := s.waitCycle_cases <;> rw [h] <;> exact ⟨rfl, rfl, rfl⟩
  · exact evalCycle_sameRun s _
  · obtain ⟨_, h⟩ | ⟨_, h⟩ := s.rwaitCycle_cases <;> rw [h] <;> exact ⟨rfl, rfl, rfl⟩
  · obtain ⟨_, h⟩ | ⟨_, h⟩ := s.doneCycle_cases <;> rw [h] <;> exact ⟨rfl, rfl, rfl⟩

/-- Every meaning answers a next state, of the same run. -/
theorem exec_answers (i : Instr) (s : State) : ∃ t, exec i s = .next t ∧ sameRun s t := by
  cases i
  case get c sig v => exact ⟨_, rfl, offerFrame_sameRun s _⟩
  case set c sig v => exact ⟨_, rfl, offerFrame_sameRun s _⟩
  case ping c sig v => exact ⟨_, rfl, offerFrame_sameRun s _⟩
  case sendGet c sig v tmo shape =>
    exact ⟨_, rfl, by split; exacts [acceptCommand_sameRun s _ _ _ _ _ _, sameRun_refl s]⟩
  case sendSet c sig v tmo shape =>
    exact ⟨_, rfl, by split; exacts [acceptCommand_sameRun s _ _ _ _ _ _, sameRun_refl s]⟩
  case sendPing c sig v tmo shape =>
    exact ⟨_, rfl, by split; exacts [acceptCommand_sameRun s _ _ _ _ _ _, sameRun_refl s]⟩
  case pingSys tmo shape =>
    exact ⟨_, rfl, by split; exacts [acceptCommand_sameRun s _ _ _ _ _ _, sameRun_refl s]⟩
  case sendInvalid c sig v tmo shape => exact ⟨_, rfl, by split; exacts [⟨rfl, rfl, rfl⟩, sameRun_refl s]⟩
  case openSession tmo => exact ⟨_, rfl, by split; exacts [openSession_sameRun s _, sameRun_refl s]⟩
  case closeSession => exact ⟨_, rfl, by split; exacts [⟨rfl, rfl, rfl⟩, sameRun_refl s]⟩
  all_goals exact ⟨_, rfl, evaluateAs_sameRun s _⟩

end Sys2Proof.Machine
end

