-- ==== Sys2Proof/Laws/PerInstr.lean ====
section
/-! SUPPORT. One family of lemmas, one per instruction: the encoding of every instruction has the fixed bits of its row in
`spec/opcode_table.json`. -/

namespace Sys2Proof

/-- The encoded words have the row's `match` under its `mask`: byte by byte for a frame, as a 9-bit word for a host word. -/
def agreesWithRow (c : Code) (r : OpcodeRow) : Prop :=
  match c with
  | .request bs =>
    bs.length * 8 = r.bits ∧ List.zipWith (· &&& ·) bs (bytesOfWord bs.length r.mask) = bytesOfWord bs.length r.pattern
  | .response bs =>
    bs.length * 8 = r.bits ∧ List.zipWith (· &&& ·) bs (bytesOfWord bs.length r.mask) = bytesOfWord bs.length r.pattern
  | .host h _ => r.bits = 9 ∧ h &&& BitVec.ofNat 9 r.mask = BitVec.ofNat 9 r.pattern

namespace Laws.RowMatch

/-- The instruction's encoding agrees with its row of the opcode table. -/
def Statement (i : Instr) : Prop := i.wellFormed = true → agreesWithRow (encode i) i.row

theorem get (c : Channel) (s : Signal) (v : Half) : Statement (.get c s v) := fun _ =>
  ⟨rfl, by simp [encodeRequest, Frame.toList, Instr.row, bytesOfWord, List.range, List.range.loop, Kind.byte]⟩

theorem set (c : Channel) (s : Signal) (v : Half) : Statement (.set c s v) := fun _ =>
  ⟨rfl, by simp [encodeRequest, Frame.toList, Instr.row, bytesOfWord, List.range, List.range.loop, Kind.byte]⟩

theorem ping (c : Channel) (s : Signal) (v : Half) : Statement (.ping c s v) := fun _ =>
  ⟨rfl, by simp [encodeRequest, Frame.toList, Instr.row, bytesOfWord, List.range, List.range.loop, Kind.byte]⟩

theorem rspOkSysinfo (low high : Byte) : Statement (.rspOkSysinfo low high) := fun _ =>
  ⟨rfl, by simp [fullResponse, Instr.row, bytesOfWord, List.range, List.range.loop]⟩

theorem rspOkReading (light sig low high : Byte) : Statement (.rspOkReading light sig low high) := fun _ =>
  ⟨rfl, by simp [fullResponse, Instr.row, bytesOfWord, List.range, List.range.loop]⟩

theorem rspOkBadsum (light sig low high sum : Byte) : Statement (.rspOkBadsum light sig low high sum) := fun _ =>
  ⟨rfl, by simp [fullResponse, Instr.row, bytesOfWord, List.range, List.range.loop]⟩

theorem rspNakFull (b2 b3 b4 b5 b6 : Byte) : Statement (.rspNakFull b2 b3 b4 b5 b6) := fun _ =>
  ⟨rfl, by simp [fullResponse, Instr.row, bytesOfWord, List.range, List.range.loop]⟩

theorem rspEchoG (light sig low high b6 : Byte) : Statement (.rspEchoG light sig low high b6) := fun _ =>
  ⟨rfl, by simp [fullResponse, Instr.row, bytesOfWord, List.range, List.range.loop]⟩

theorem rspEchoS (light sig low high b6 : Byte) : Statement (.rspEchoS light sig low high b6) := fun _ =>
  ⟨rfl, by simp [fullResponse, Instr.row, bytesOfWord, List.range, List.range.loop]⟩

theorem rspEchoP (light sig low high b6 : Byte) : Statement (.rspEchoP light sig low high b6) := fun _ =>
  ⟨rfl, by simp [fullResponse, Instr.row, bytesOfWord, List.range, List.range.loop]⟩

theorem rspShortAck (b2 : Byte) : Statement (.rspShortAck b2) := fun _ =>
  ⟨rfl, by simp [shortResponse, Instr.row, bytesOfWord, List.range, List.range.loop]⟩

theorem rspShortNak (b2 : Byte) : Statement (.rspShortNak b2) := fun _ =>
  ⟨rfl, by simp [shortResponse, Instr.row, bytesOfWord, List.range, List.range.loop]⟩

theorem sendGet (c : Channel) (s : Signal) (v : Word) (tmo : Option Word) (shape : Shape) :
    Statement (.sendGet c s v tmo shape) := fun _ =>
  ⟨rfl, by
    show commandWord 0 c s &&& 0x1C0#9 = 0x100#9
    cases c <;> cases s <;> decide⟩

theorem sendSet (c : Channel) (s : Signal) (v : Word) (tmo : Option Word) (shape : Shape) :
    Statement (.sendSet c s v tmo shape) := fun _ =>
  ⟨rfl, by
    show commandWord 1 c s &&& 0x1C0#9 = 0x140#9
    cases c <;> cases s <;> decide⟩

theorem sendPing (c : Channel) (s : Signal) (v : Word) (tmo : Option Word) (shape : Shape) :
    Statement (.sendPing c s v tmo shape) := fun _ =>
  ⟨rfl, by
    show commandWord 2 c s &&& 0x1C0#9 = 0x180#9
    cases c <;> cases s <;> decide⟩

theorem pingSys (tmo : Option Word) (shape : Shape) : Statement (.pingSys tmo shape) := fun _ =>
  ⟨rfl, by
    show commandWord 2 .system .system &&& 0x1FC#9 = 0x18C#9
    decide⟩

theorem sendInvalid (c : Channel) (s : Signal) (v : Word) (tmo : Option Word) (shape : Shape) :
    Statement (.sendInvalid c s v tmo shape) := fun _ =>
  ⟨rfl, by
    show commandWord 3 c s &&& 0x1C0#9 = 0x1C0#9
    cases c <;> cases s <;> decide⟩

theorem openSession (tmo : Word) : Statement (.openSession tmo) := fun _ =>
  ⟨rfl, by
    show hostWord false 0 0 0 true false &&& 0x103#9 = 0x002#9
    decide⟩

theorem closeSession : Statement .closeSession := fun _ =>
  ⟨rfl, by
    show hostWord false 0 0 0 false true &&& 0x101#9 = 0x001#9
    decide⟩

end Laws.RowMatch

end Sys2Proof
end

