-- ==== Sys2Proof/Laws/Step.lean ====
section
/-! SUPPORT. What a step can do, said once: the inversion lemma of `step`, and what `fetch` reads in each state. -/

namespace Sys2Proof.Machine

/-- A step that answers a next state is a reset cycle, the cycle of the fetched instruction, or a cycle of the sequencer
without one. -/
theorem step_cases {s t : State} (h : step s = .next t) :
    s.par.legal = true ∧
      ((s.sampled.rst = true ∧ t = s.resetRegisters.advance) ∨
        (s.sampled.rst = false ∧ ∃ i u, s.fetch = some i ∧ exec i s.beginCycle = .next u ∧ t = s.endCycle u) ∨
        (s.sampled.rst = false ∧ s.fetch = none ∧ t = s.endCycle s.beginCycle.sequence)) := by
  unfold step at h
  split at h
  · rename_i hl
    refine ⟨hl, ?_⟩
    split at h
    · rename_i hr
      exact .inl ⟨hr, (Host.Outcome.next.inj h).symm⟩
    · rename_i hr
      have hr : s.sampled.rst = false := by simpa using hr
      split at h
      · rename_i i hf
        obtain ⟨u, hu, _⟩ := exec_answers i s.beginCycle
        rw [hu] at h
        exact .inr (.inl ⟨hr, i, u, hf, hu, (Host.Outcome.next.inj h).symm⟩)
      · rename_i hf
        exact .inr (.inr ⟨hr, hf, (Host.Outcome.next.inj h).symm⟩)
  · cases h

/-- The step of a cycle with reset asserted. -/
theorem step_of_reset {s : State} (hl : s.par.legal = true) (hr : s.sampled.rst = true) :
    step s = .next s.resetRegisters.advance := by
  simp [step, hl, hr]

/-- The step of a cycle in which an instruction is fetched. -/
theorem step_of_fetch {s u : State} {i : Instr} (hl : s.par.legal = true) (hr : s.sampled.rst = false)
    (hf : s.fetch = some i) (hu : exec i s.beginCycle = .next u) : step s = .next (s.endCycle u) := by
  simp [step, hl, hr, hf, hu]

/-- The step of a cycle in which no instruction is fetched. -/
theorem step_of_no_fetch {s : State} (hl : s.par.legal = true) (hr : s.sampled.rst = false) (hf : s.fetch = none) :
    step s = .next (s.endCycle s.beginCycle.sequence) := by
  simp [step, hl, hr, hf]

theorem fetch_idle {s : State} (h : s.st = .idle) :
    s.fetch = (decodeHost s.sampled.hostWord s.sampled.operands).toOption := by simp [State.fetch, h]

theorem fetch_tx {s : State} (h : s.st = .tx) : s.fetch = (decodeRequest s.frm.toList).toOption := by
  simp [State.fetch, h]

theorem fetch_eval {s : State} (h : s.st = .eval) : s.fetch = s.fetchWindow := by simp [State.fetch, h]

/-- In the waits no instruction is fetched. -/
theorem fetch_wait {s : State} (h : s.st = .settle ∨ s.st = .wait ∨ s.st = .rwait ∨ s.st = .done) : s.fetch = none := by
  rcases h with h | h | h | h <;> simp [State.fetch, h]

/-- The inputs sampled at the head of a non-empty list. -/
theorem sampled_cons {s : State} {i : Inputs} {rest : List Inputs} (h : s.env = i :: rest) : s.sampled = i := by
  simp [State.sampled, h]

end Sys2Proof.Machine
end

