-- ==== Sys2Proof/Tests/Slice0.lean ====
section
/-! SUPPORT. Tests. Expected values are those of `spec/95_test_vectors.md` (the vector is named) or hand calculation from
the rule named; the `witness_…` theorems show that the hypotheses of the statement of that name are met. -/

namespace Sys2Proof.Tests

open Sys2Proof Sys2Proof.Machine

/-! ## Well-formedness: each check refuses an ill-formed term -/

theorem test_wf_reading_of_system_pair : (Instr.rspOkReading 0x53 0x53 2 1).wellFormed = false := by decide
theorem test_wf_badsum_with_good_sum : (Instr.rspOkBadsum 0x00 0x50 0x0F 0x00 0x5F).wellFormed = false := by decide
theorem test_wf_ping_of_system_pair : (Instr.sendPing .system .system 0 none .oknak).wellFormed = false := by decide
theorem test_admits_other_shape : (Instr.rspOkSysinfo 2 1).admits .echo = false ∧
    (Instr.rspEchoG 0x31 0x50 0 0 0).admits .oknak = false := by decide

/-! ## Decoding: a written-out word for every constructor -/

/-- V-ENC-02. -/
theorem test_decode_get : decodeRequest [0xAA, 0x47, 0x32, 0x54, 0x00, 0x00, 0x21, 0x55] = .ok (.get .two .temperature 0) := by
  rfl
/-- V-ENC-04, V-ENC-07. -/
theorem test_decode_set :
    decodeRequest [0xAA, 0x53, 0x31, 0x43, 0xFF, 0x03, 0xDD, 0x55] = .ok (.set .one .current 0x03FF) ∧
    decodeRequest [0xAA, 0x53, 0x32, 0x43, 0x34, 0x12, 0x04, 0x55] = .ok (.set .two .current 0x1234) := ⟨rfl, rfl⟩
/-- V-ENC-08, V-ENC-09. -/
theorem test_decode_ping :
    decodeRequest [0xAA, 0x50, 0x53, 0x53, 0x00, 0x00, 0x50, 0x55] = .ok (.ping .system .system 0) ∧
    decodeRequest [0xAA, 0x50, 0x31, 0x50, 0x00, 0x00, 0x31, 0x55] = .ok (.ping .one .pwm 0) := ⟨rfl, rfl⟩
/-- V-ENC-04 with one bit of byte 6 flipped is no request (R74). -/
theorem test_decode_request_sum :
    decodeRequest [0xAA, 0x53, 0x31, 0x43, 0xFF, 0x03, 0xDC, 0x55] = .error .badRequestSum := rfl
/-- V-CLS-11. -/
theorem test_decode_ok_sysinfo :
    decodeResponse .oknak [0xAA, 0x4F, 0x53, 0x53, 0x02, 0x01, 0x03, 0x55] = .ok (.rspOkSysinfo 0x02 0x01) := rfl
/-- V-CLS-09, V-CLS-12. -/
theorem test_decode_ok_reading :
    decodeResponse .oknak [0xAA, 0x4F, 0x00, 0x50, 0x0F, 0x00, 0x5F, 0x55] = .ok (.rspOkReading 0x00 0x50 0x0F 0x00) ∧
    decodeResponse .oknak [0xAA, 0x4F, 0x53, 0x50, 0x01, 0x00, 0x02, 0x55] = .ok (.rspOkReading 0x53 0x50 0x01 0x00) :=
  ⟨rfl, rfl⟩
/-- V-CLS-08, V-CLS-10. -/
theorem test_decode_ok_badsum :
    decodeResponse .oknak [0xAA, 0x4F, 0x00, 0x50, 0x0F, 0x00, 0x10, 0x55] = .ok (.rspOkBadsum 0x00 0x50 0x0F 0x00 0x10) ∧
    decodeResponse .oknak [0xAA, 0x4F, 0x53, 0x53, 0x02, 0x01, 0x00, 0x55] = .ok (.rspOkBadsum 0x53 0x53 0x02 0x01 0x00) :=
  ⟨rfl, rfl⟩
/-- V-CLS-14, V-CLS-15. -/
theorem test_decode_nak_full (shape : Shape) :
    decodeResponse shape [0xAA, 0x4E, 0x00, 0x00, 0x00, 0x00, 0x00, 0x55] = .ok (.rspNakFull 0 0 0 0 0) := by
  cases shape <;> rfl
/-- V-CLS-16, V-CLS-17. -/
theorem test_decode_echo_g :
    decodeResponse .echo [0xAA, 0x47, 0x31, 0x50, 0x64, 0x00, 0x00, 0x55] = .ok (.rspEchoG 0x31 0x50 0x64 0x00 0x00) ∧
    decodeResponse .oknak [0xAA, 0x47, 0x31, 0x50, 0x64, 0x00, 0x00, 0x55] = .error .unknownStatus := ⟨rfl, rfl⟩
/-- V-CLS-21. -/
theorem test_decode_echo_s :
    decodeResponse .echo [0xAA, 0x53, 0x31, 0x43, 0xFF, 0x03, 0xDD, 0x55] = .ok (.rspEchoS 0x31 0x43 0xFF 0x03 0xDD) := rfl
/-- V-CLS-20. -/
theorem test_decode_echo_p :
    decodeResponse .echo [0xAA, 0x50, 0x53, 0x53, 0x02, 0x01, 0x53, 0x55] = .ok (.rspEchoP 0x53 0x53 0x02 0x01 0x53) := rfl
/-- V-CLS-01, V-CLS-02. -/
theorem test_decode_short_ack :
    decodeResponse .oknak [0xAA, 0x4F, 0x4F, 0x55] = .ok (.rspShortAck 0x4F) ∧
    decodeResponse .echo [0xAA, 0x4F, 0x00, 0x55] = .ok (.rspShortAck 0x00) := ⟨rfl, rfl⟩
/-- V-CLS-03, V-CLS-05. -/
theorem test_decode_short_nak :
    decodeResponse .oknak [0xAA, 0x4E, 0x4E, 0x55] = .ok (.rspShortNak 0x4E) ∧
    decodeResponse .oknak [0xAA, 0x58, 0x58, 0x55] = .error .malformed := ⟨rfl, rfl⟩
/-- V-DEC-10, V-DEC-13, V-DEC-14, V-DEC-08. -/
theorem test_decode_rejects :
    decodeResponse .oknak [0xAA, 0x4F, 0x4F, 0x55, 0x00] = .error .badMarkers ∧
    decodeResponse .oknak [0xAA, 0x4F, 0x4F, 0x4F, 0x55] = .error .tooShort ∧
    decodeResponse .oknak [0xAA, 0x4F, 0x00, 0x50, 0x0F, 0x00, 0x55] = .error .tooShort ∧
    decodeResponse .oknak [0x55, 0x4F, 0x00, 0x50, 0x0F, 0x00, 0x5F, 0xAA] = .error .badMarkers := ⟨rfl, rfl, rfl, rfl⟩

/-- The operands of V-ENC-04 and an override, for the host words below (R85: valid, kind, chan, sig, open, close). -/
def operands : HostOperands := { value := 1023, tmoOvr := true, tmo := 9, shape := true, openTmo := 7 }

theorem test_decode_send_get :
    decodeHost 0b100101000 operands = .ok (.sendGet .two .temperature 1023 (some 9) .echo) := rfl
theorem test_decode_send_set :
    decodeHost 0b101010100 operands = .ok (.sendSet .one .current 1023 (some 9) .echo) := rfl
theorem test_decode_send_ping :
    decodeHost 0b110001100 operands = .ok (.sendPing .system .system 1023 (some 9) .echo) ∧
    decodeHost 0b110010000 HostOperands.zero = .ok (.sendPing .one .pwm 0 none .oknak) := ⟨rfl, rfl⟩
theorem test_decode_ping_sys : decodeHost 0b110001100 HostOperands.zero = .ok (.pingSys none .oknak) := rfl
theorem test_decode_send_invalid :
    decodeHost 0b111110100 operands = .ok (.sendInvalid .three .current 1023 (some 9) .echo) := rfl
theorem test_decode_open : decodeHost 0b000000010 operands = .ok (.openSession 7) := rfl
/-- CLOSE wins over OPEN, and a command over both (R163). -/
theorem test_decode_close :
    decodeHost 0b000000011 operands = .ok .closeSession ∧
    decodeHost 0b100000011 operands = .ok (.sendGet .system .pwm 1023 (some 9) .echo) ∧
    decodeHost 0b000111100 operands = .error .noRequest := ⟨rfl, rfl, rfl⟩

/-! ## Behaviour: one step or one meaning on a small state -/

/-- Small parameters: a settle delay of two cycles and a retry wait of three. -/
def par : Params :=
  { maxAttempts := 3, clkHz := 1, retryDelay := 2, settleCycles := 1, retryMask := 0x03F0, acceptShort := true }

/-- A state of an Open session in sequencer state `q`, the frame of V-ENC-04 in `frm`, and the inputs given. -/
def inState (q : SeqState) (inputs : List Inputs) : State :=
  { State.reset with
    st := q
    sessOpen := true
    sessTmo := 5
    frm := encodeRequest .set .one .current 1023
    reqTmo := 2
    att := if q = .idle then 0 else 1
    par := par
    env := inputs }

/-- The state in EVAL with the given eight bytes received under the given shape. -/
def evalState (shape : Shape) (window : Frame) : State :=
  { inState .eval [Inputs.quiet] with reqShape := shape, rxb := window, rxCnt := 8 }

/-- The outcome is a next state that satisfies `p`. -/
def after (o : Host.Outcome State Fault Refusal) (p : State → Bool) : Bool :=
  match o with
  | .next t => p t
  | .fault _ => false
  | .refused _ => false

/-- R109: the byte at `tx_idx` goes out; a stalled transmitter holds it. -/
theorem test_get_sends_byte :
    after (exec (.get .two .temperature 0) { inState .tx [Inputs.quiet] with txIdx := 6 })
      (fun t => t.wire == [0x21] && t.txIdx == 7 && t.st == .tx) = true ∧
    after (exec (.get .two .temperature 0) (inState .tx [{ Inputs.quiet with txReady := false }]))
      (fun t => t.wire == [] && t.txIdx == 0 && t.st == .tx) = true := by decide
/-- R109: after the eighth byte the settle delay starts. -/
theorem test_set_sends_last_byte :
    after (exec (.set .one .current 1023) { inState .tx [Inputs.quiet] with txIdx := 7 })
      (fun t => t.wire == [0x55] && t.txIdx == 0 && t.st == .settle && t.tmr == 1) = true := by decide
theorem test_ping_sends_byte :
    after (exec (.ping .system .system 0) { inState .tx [Inputs.quiet] with txIdx := 1 })
      (fun t => t.wire == [0x50] && t.txIdx == 2) = true := by decide
/-- V-CLS-11, with the outputs of note. -/
theorem test_sysinfo :
    after (step (evalState .oknak ⟨0xAA, 0x4F, 0x53, 0x53, 0x02, 0x01, 0x03, 0x55⟩))
      (fun t => t.st == .done && t.resCode == .sysinfo && t.outputs.rspFwMajor == 1 && t.outputs.rspFwMinor == 2 &&
        t.outputs.rspValue == 0x0102) = true := by decide
/-- V-CLS-13. -/
theorem test_reading :
    after (step (evalState .oknak ⟨0xAA, 0x4F, 0x32, 0x54, 0xE8, 0x03, 0x8D, 0x55⟩))
      (fun t => t.st == .done && t.resCode == .reading && t.outputs.rspValue == 1000) = true := by decide
/-- V-CLS-08: retried at the first attempt, final at the third (R186). -/
theorem test_badsum :
    after (step (evalState .oknak ⟨0xAA, 0x4F, 0x00, 0x50, 0x0F, 0x00, 0x10, 0x55⟩))
      (fun t => t.st == .rwait && t.resCode == .checksumMismatch && t.tmr == 2 && t.att == 1) = true ∧
    after (step { evalState .oknak ⟨0xAA, 0x4F, 0x00, 0x50, 0x0F, 0x00, 0x10, 0x55⟩ with att := 3 })
      (fun t => t.st == .done && t.resCode == .checksumMismatch) = true := by decide
/-- V-CLS-15. -/
theorem test_nak_full :
    after (step (evalState .echo ⟨0xAA, 0x4E, 0x00, 0x00, 0x00, 0x00, 0x00, 0x55⟩))
      (fun t => t.st == .done && t.resCode == .nak) = true := by decide
/-- V-CLS-16 and V-CLS-17. -/
theorem test_echo_g :
    after (step (evalState .echo ⟨0xAA, 0x47, 0x31, 0x50, 0x64, 0x00, 0x00, 0x55⟩))
      (fun t => t.st == .done && t.resCode == .reading && t.outputs.rspValue == 100) = true ∧
    after (step (evalState .oknak ⟨0xAA, 0x47, 0x31, 0x50, 0x64, 0x00, 0x00, 0x55⟩))
      (fun t => t.st == .rwait && t.resCode == .unknownStatus) = true := by decide
/-- V-CLS-21. -/
theorem test_echo_s :
    after (step (evalState .echo ⟨0xAA, 0x53, 0x31, 0x43, 0xFF, 0x03, 0xDD, 0x55⟩))
      (fun t => t.resCode == .reading && t.outputs.rspChan == 0x31 && t.outputs.rspSig == 0x43 &&
        t.outputs.rspValue == 1023) = true := by decide
/-- V-CLS-20. -/
theorem test_echo_p :
    after (step (evalState .echo ⟨0xAA, 0x50, 0x53, 0x53, 0x02, 0x01, 0x53, 0x55⟩))
      (fun t => t.st == .done && t.resCode == .sysinfo) = true := by decide
/-- V-CLS-02, and R185 without `ACCEPT_SHORT`. -/
theorem test_short_ack :
    after (step { evalState .oknak ⟨0xAA, 0x4F, 0x00, 0x55, 0, 0, 0, 0⟩ with rxCnt := 4 })
      (fun t => t.st == .done && t.resCode == .ack) = true ∧
    after (step { evalState .oknak ⟨0xAA, 0x4F, 0x00, 0x55, 0, 0, 0, 0⟩ with
        rxCnt := 4, par := { par with acceptShort := false } })
      (fun t => t.st == .rwait && t.resCode == .timeout) = true := by decide
/-- V-CLS-04. -/
theorem test_short_nak :
    after (step { evalState .echo ⟨0xAA, 0x4E, 0x4E, 0x55, 0, 0, 0, 0⟩ with rxCnt := 4 })
      (fun t => t.st == .done && t.resCode == .nak) = true := by decide
/-- V-ENC-02 and the timeout of the session (R101). -/
theorem test_send_get :
    after (exec (.sendGet .two .temperature 0 none .oknak) (inState .idle []))
      (fun t => t.st == .tx && t.att == 1 && t.reqTmo == 5 &&
        t.frm == ⟨0xAA, 0x47, 0x32, 0x54, 0x00, 0x00, 0x21, 0x55⟩) = true := by decide
/-- V-RNG-02 with an override; V-RNG-03. -/
theorem test_send_set :
    after (exec (.sendSet .one .pwm 65535 (some 9) .echo) (inState .idle []))
      (fun t => t.st == .tx && t.reqTmo == 9 && t.frm == ⟨0xAA, 0x53, 0x31, 0x50, 0xFF, 0xFF, 0x32, 0x55⟩) = true ∧
    after (exec (.sendSet .one .pwm 65536 none .echo) (inState .idle []))
      (fun t => t.st == .done && t.resCode == .valueOutOfRange && t.att == 0) = true := by decide
/-- V-RNG-05. -/
theorem test_send_ping :
    after (exec (.sendPing .one .pwm 0x80000000 none .oknak) (inState .idle []))
      (fun t => t.st == .done && t.resCode == .valueOutOfRange && t.att == 0) = true := by decide
/-- V-ENC-08. -/
theorem test_ping_sys :
    after (exec (.pingSys none .oknak) (inState .idle []))
      (fun t => t.st == .tx && t.frm == ⟨0xAA, 0x50, 0x53, 0x53, 0x00, 0x00, 0x50, 0x55⟩) = true := by decide
/-- V-PRI-01: the kind is checked before the range and the session. -/
theorem test_send_invalid :
    after (exec (.sendInvalid .one .pwm 70000 none .oknak) { inState .idle [] with sessOpen := false })
      (fun t => t.st == .done && t.resCode == .invalidCommand && t.att == 0) = true := by decide
/-- R161, R165: with the transport available, and without. -/
theorem test_open :
    after (step { inState .idle [{ Inputs.quiet with openReq := true, openTmo := 8, phyAvail := true }] with sessOpen := false })
      (fun t => t.sessOpen && t.sessTmo == 8 && !t.openFail) = true ∧
    after (step { inState .idle [{ Inputs.quiet with openReq := true, openTmo := 8 }] with sessOpen := false })
      (fun t => !t.sessOpen && t.sessTmo == 5 && t.openFail) = true := by decide
/-- R162. -/
theorem test_close :
    after (step (inState .idle [{ Inputs.quiet with closeReq := true }])) (fun t => !t.sessOpen && t.sessTmo == 5) = true := by
  decide

/-! ## The step after `withFetchWord` from reset -/

/-- A request frame sends its first byte; PING_SYS finds the session Closed (R102); a response form is evaluated. -/
theorem test_first_step_from_reset :
    after (step (State.reset.withFetchWord 64 0xAA533143FF03DD55)) (fun t => t.wire == [0xAA] && t.txIdx == 1) = true ∧
    after (step (State.reset.withFetchWord 16 0x18C)) (fun t => t.st == .done && t.resCode == .notOpen) = true ∧
    after (step (State.reset.withFetchWord 32 0xAA4F0055)) (fun t => t.st == .done && t.resCode == .ack) = true ∧
    after (step (State.reset.withFetchWord 64 0xAA47315064000055))
      (fun t => t.st == .done && t.resCode == .reading) = true := by decide

/-! ## Witnesses: the hypotheses of the statements are met -/

/-- One instruction of each source. -/
theorem witness_DecodeInvertsEncode :
    ((Instr.set .three .system 0xFFFF).wellFormed = true ∧ (Instr.set .three .system 0xFFFF).admits .oknak = true) ∧
    ((Instr.rspOkReading 0x53 0x50 1 0).wellFormed = true ∧ (Instr.rspOkReading 0x53 0x50 1 0).admits .oknak = true) ∧
    ((Instr.rspEchoP 0x53 0x53 2 1 0).wellFormed = true ∧ (Instr.rspEchoP 0x53 0x53 2 1 0).admits .echo = true) ∧
    ((Instr.sendPing .system .system 1 none .echo).wellFormed = true ∧
      (Instr.sendPing .system .system 1 none .echo).admits .echo = true) := by decide

theorem witness_AcceptedFrameIsItsEncoding :
    decodeRequest [0xAA, 0x47, 0x33, 0x54, 0x00, 0x80, 0xA0, 0x55] = .ok (.get .three .temperature 0x8000) ∧
    decodeResponse .echo [0xAA, 0x47, 0x33, 0x54, 0x00, 0x80, 0xA0, 0x55] = .ok (.rspEchoG 0x33 0x54 0x00 0x80 0xA0) :=
  ⟨rfl, rfl⟩

/-- A length for each clause: 3; 8 with a bad last byte; 4; 8; 5. -/
theorem witness_DecodeVerdicts :
    (let B : Frame := ⟨0xAA, 0x4F, 0x4F, 0x55, 0x55, 0, 0, 0x55⟩
     3 ≤ 8 ∧ 3 < 4 ∧
     ¬8 < 4 ∧ Frame.byte { B with b7 := 0x54 } (8 - 1) ≠ 0x55 ∧
     B.byte 0 = 0xAA ∧ B.byte (4 - 1) = 0x55 ∧ B.byte (8 - 1) = 0x55 ∧ B.byte (5 - 1) = 0x55) := by decide

theorem witness_FormsAgreeWithEvaluate :
    (evalState .echo ⟨0xAA, 0x47, 0x31, 0x50, 0x64, 0x00, 0x00, 0x55⟩).st = .eval ∧
    (evalState .echo ⟨0xAA, 0x47, 0x31, 0x50, 0x64, 0x00, 0x00, 0x55⟩).fetchWindow =
      some (.rspEchoG 0x31 0x50 0x64 0x00 0x00) := ⟨rfl, rfl⟩

theorem witness_EchoedRequestRoundTrip :
    (evalState .echo (encodeRequest .set .one .current 1023)).rxb = encodeRequest .set .one .current 1023 := rfl

/-- 8 bytes, and 4 bytes of an accepted short frame: the boundary of the two sides. -/
theorem witness_PartialWindowTimesOut :
    8 ≤ 8 ∧ evaluate true Frame.zero 8 .oknak = .badMarkers ∧ 4 ≤ 8 ∧
    evaluate true ⟨0xAA, 0x4F, 0, 0x55, 0, 0, 0, 0⟩ 4 .oknak = .ack ∧
    evaluate false ⟨0xAA, 0x4F, 0, 0x55, 0, 0, 0, 0⟩ 4 .oknak = .timeout := by decide

theorem witness_OkFormsFinish :
    (evalState .oknak Frame.zero).par.legal = true ∧ (evalState .oknak Frame.zero).st = .eval ∧
    (evalState .oknak Frame.zero).reqShape = .oknak := by decide

/-- The retry at the last attempt but one, and the end at the last. -/
theorem witness_BadChecksumRetriesOrFinishes :
    (let s : State := { evalState .oknak Frame.zero with att := 2 }
     s.st = .eval ∧ s.reqShape = .oknak ∧ s.par.retryMask.getLsbD 4 = true ∧ s.att.toNat < s.par.maxAttempts) ∧
    (let s : State := { evalState .oknak Frame.zero with att := 3 }
     s.st = .eval ∧ s.reqShape = .oknak ∧ ¬s.att.toNat < s.par.maxAttempts) := by decide

theorem witness_NakFullFinishes :
    (evalState .echo Frame.zero).par.legal = true ∧ (evalState .echo Frame.zero).st = .eval := by decide

theorem witness_EchoFormsFinish :
    (evalState .echo Frame.zero).par.legal = true ∧ (evalState .echo Frame.zero).st = .eval ∧
    (evalState .echo Frame.zero).reqShape = .echo := by decide

theorem witness_ShortFormsFinish :
    (evalState .echo Frame.zero).par.legal = true ∧ (evalState .echo Frame.zero).st = .eval ∧
    (evalState .echo Frame.zero).par.acceptShort = true := by decide

theorem witness_SendStartsFirstAttempt :
    (inState .idle []).st = .idle ∧ (inState .idle []).sessOpen = true ∧ valueInRange 65535 = true := by decide

theorem witness_PingSysStartsFirstAttempt : (inState .idle []).st = .idle ∧ (inState .idle []).sessOpen = true := by decide

theorem witness_ClosedSessionFinishesNotOpen :
    (let s : State := { inState .idle [] with sessOpen := false }
     s.st = .idle ∧ s.sessOpen = false ∧ valueInRange 0 = true) := by decide

theorem witness_OutOfRangeFinishesUnsent : (inState .idle []).st = .idle ∧ valueInRange 65536 = false := by decide

theorem witness_ReservedKindFinishesInvalid : (inState .idle []).st = .idle := by decide

/-- An Open session, an acquired transport, and a failure. -/
theorem witness_OpenActs :
    ((inState .idle []).st = .idle ∧ (inState .idle []).sessOpen = true) ∧
    (let s : State := { inState .idle [{ Inputs.quiet with phyAvail := true }] with sessOpen := false }
     s.st = .idle ∧ s.sessOpen = false ∧ s.sampled.phyAvail = true) ∧
    (let s : State := { inState .idle [Inputs.quiet] with sessOpen := false }
     s.st = .idle ∧ s.sessOpen = false ∧ s.sampled.phyAvail = false) := by decide

theorem witness_CloseActs : (inState .idle []).st = .idle := by decide

theorem witness_HostOperationsIgnoredWhileBusy : (inState .done []).st ≠ .idle := by decide

/-- A stall, the seventh byte and the eighth. -/
theorem witness_RequestFrameTransmits :
    (let s := inState .tx [{ Inputs.quiet with txReady := false }]
     s.st = .tx ∧ s.sampled.txReady = false) ∧
    (let s : State := { inState .tx [Inputs.quiet] with txIdx := 6 }
     s.st = .tx ∧ s.sampled.txReady = true ∧ s.txIdx ≠ 7) ∧
    (let s : State := { inState .tx [Inputs.quiet] with txIdx := 7 }
     s.st = .tx ∧ s.sampled.txReady = true ∧ s.txIdx = 7) := by decide

theorem witness_EightCyclesSendTheFrame :
    (let s := inState .tx (List.replicate 8 Inputs.quiet)
     s.par.legal = true ∧ s.st = .tx ∧ s.txIdx = 0 ∧ s.during 8 (fun i => i.noReset && i.txReady)) := by
  unfold State.during; decide

/-- The settle state reached by the last byte of TX. -/
def settled : State :=
  { inState .settle [] with tmr := 1, wire := [0x55], cycle := 1 }

theorem witness_WireGrowsByOfferedByte :
    step { inState .tx [Inputs.quiet] with txIdx := 7 } = .next settled := rfl

/-- The host word in IDLE, the frame in TX, a full and a short window in EVAL. -/
theorem witness_StepRunsDecodedInstruction :
    (let s : State := inState .idle [{ Inputs.quiet with closeReq := true }]
     s.par.legal = true ∧ s.sampled.rst = false ∧ Instr.closeSession.wellFormed = true ∧ s.st = .idle ∧
       decode s.reqShape (.host s.sampled.hostWord s.sampled.operands) = .ok .closeSession ∧
       exec .closeSession { s with openFail := false } = .next { s with sessOpen := false }) ∧
    (let s : State := inState .tx [Inputs.quiet]
     s.par.legal = true ∧ s.sampled.rst = false ∧ (Instr.set .one .current 1023).wellFormed = true ∧ s.st = .tx ∧
       decode s.reqShape (.request s.frm.toList) = .ok (.set .one .current 1023) ∧
       exec (.set .one .current 1023) { s with openFail := false } = .next { s with txIdx := 1, wire := [0xAA] }) ∧
    (let s : State := evalState .oknak ⟨0xAA, 0x4E, 0, 0, 0, 0, 0, 0x55⟩
     s.par.legal = true ∧ s.sampled.rst = false ∧ (Instr.rspNakFull 0 0 0 0 0).wellFormed = true ∧ s.st = .eval ∧
       s.rxCnt = 8 ∧ decode s.reqShape (.response s.window) = .ok (.rspNakFull 0 0 0 0 0) ∧
       exec (.rspNakFull 0 0 0 0 0) { s with openFail := false } = .next { s with resCode := .nak, st := .done }) ∧
    (let s : State := { evalState .oknak ⟨0xAA, 0x4F, 0, 0x55, 0, 0, 0, 0⟩ with rxCnt := 4 }
     s.par.legal = true ∧ s.sampled.rst = false ∧ (Instr.rspShortAck 0).wellFormed = true ∧ s.st = .eval ∧
       s.rxCnt = 4 ∧ s.par.acceptShort = true ∧ decode s.reqShape (.response s.window) = .ok (.rspShortAck 0) ∧
       exec (.rspShortAck 0) { s with openFail := false } = .next { s with resCode := .ack, st := .done }) :=
  ⟨⟨rfl, rfl, rfl, rfl, rfl, rfl⟩, ⟨rfl, rfl, rfl, rfl, rfl, rfl⟩, ⟨rfl, rfl, rfl, rfl, rfl, rfl, rfl⟩,
    ⟨rfl, rfl, rfl, rfl, rfl, rfl, rfl, rfl⟩⟩

theorem witness_StepIsTheSpecCycle : (inState .wait []).par.legal = true := by decide

/-- A legal configuration, and one with no attempt allowed. -/
theorem witness_LegalConfigurationNeverStops :
    (inState .wait []).par.legal = true ∧
    ({ inState .wait [] with par := { par with maxAttempts := 0 } } : State).par.legal = false := by decide

/-- A word of each width. -/
theorem witness_PlacedWordRunsNext :
    (inState .idle []).par.legal = true ∧ (inState .idle []).par.acceptShort = true ∧
    decodeTableWord 16 0x002 = some (.openSession 0) ∧ decodeTableWord 32 0xAA4E4E55 = some (.rspShortNak 0x4E) ∧
    decodeTableWord 64 0xAA4E000000000055 = some (.rspNakFull 0 0 0 0 0) := ⟨rfl, rfl, rfl, rfl, rfl⟩

/-- A reset in RWAIT, and one in a TX cycle that moves a byte. -/
theorem witness_ResetCycleClearsRegisters :
    ((inState .rwait [{ Inputs.quiet with rst := true }]).par.legal = true ∧
      (inState .rwait [{ Inputs.quiet with rst := true }]).sampled.rst = true) ∧
    (let s := inState .tx [{ Inputs.quiet with rst := true }]
     s.par.legal = true ∧ s.sampled.rst = true ∧ s.outputs.txValid = true ∧ s.sampled.txReady = true) := by decide

/-- A state for each arm; in IDLE a command accepted, refused and none; in EVAL a retry. -/
theorem witness_SequencerTransitions :
    (inState .tx [Inputs.quiet]).par.legal = true ∧ (inState .tx [Inputs.quiet]).sampled.rst = false ∧
    after (step (inState .idle [{ Inputs.quiet with cmdValid := true, cmdValue := 65535 }])) (fun t => t.st == .tx) = true ∧
    after (step (inState .idle [{ Inputs.quiet with cmdValid := true, cmdValue := 65536 }])) (fun t => t.st == .done) = true ∧
    after (step (inState .idle [Inputs.quiet])) (fun t => t.st == .idle) = true ∧
    after (step (inState .tx [Inputs.quiet])) (fun t => t.st == .tx) = true ∧
    after (step (inState .settle [Inputs.quiet])) (fun t => t.st == .wait) = true ∧
    after (step { inState .wait [Inputs.quiet] with rxCnt := 8, tmr := 1 }) (fun t => t.st == .eval) = true ∧
    after (step (inState .eval [Inputs.quiet])) (fun t => t.st == .rwait) = true ∧
    after (step (inState .rwait [Inputs.quiet])) (fun t => t.st == .tx) = true ∧
    after (step (inState .done [Inputs.quiet])) (fun t => t.st == .idle) = true := by decide

/-- The eighth byte of a window, in the window's last cycle. -/
theorem witness_WindowStoresByte :
    (let s : State := { inState .wait [{ Inputs.quiet with rxValid := true, rxData := 0x55 }] with rxCnt := 7 }
     s.sampled.rst = false ∧ s.sampled.rxValid = true ∧ s.st = .wait ∧ s.rxCnt.toNat < 8 ∧
       after (step s) (fun t => t.rxb.b7 == 0x55 && t.rxCnt == 8 && t.st == .eval) = true) := by decide

/-- Outside a window, and with a full one. -/
theorem witness_DroppedByteHasNoEffect :
    ((inState .eval [Inputs.quiet]).st = .eval ∧ (inState .eval [Inputs.quiet]).env = Inputs.quiet :: []) ∧
    (let s : State := { inState .wait [Inputs.quiet] with rxCnt := 8 }
     8 ≤ s.rxCnt.toNat ∧ s.env = Inputs.quiet :: []) := by decide

/-- A captured byte: the two steps of the last clause. -/
theorem witness_DroppedByteHasNoEffect_captured :
    (inState .wait [Inputs.quiet]).env = Inputs.quiet :: [] ∧
    step (inState .wait [Inputs.quiet]) = .next { inState .eval [] with cycle := 1 } ∧
    step (inState .wait [{ Inputs.quiet with rxValid := true, rxData := 0xAA }]) =
      .next { inState .eval [] with cycle := 1, rxb := ⟨0xAA, 0, 0, 0, 0, 0, 0, 0⟩, rxCnt := 1 } := ⟨rfl, rfl, rfl⟩

theorem witness_ShortFrameStatusOnly :
    (let B : Frame := ⟨0xAA, 0x4F, 0x00, 0x55, 0, 0, 0, 0⟩
     B.b0 = 0xAA ∧ B.b1 = 0x4F ∧ B.b2 = 0x00 ∧ B.b3 = 0x55) := by decide

theorem witness_HostLinesIgnoredWhileBusy :
    (inState .wait [Inputs.quiet]).st ≠ .idle ∧ (inState .wait [Inputs.quiet]).env = Inputs.quiet :: [] := by decide

/-- The Closed state in IDLE with the given inputs. -/
def closedIdle (i : Inputs) : State := { inState .idle [i] with sessOpen := false }

theorem witness_OpenFailPulse :
    (closedIdle { Inputs.quiet with openReq := true }).sampled.rst = false ∧
    step (closedIdle { Inputs.quiet with openReq := true }) =
      .next { inState .idle [] with sessOpen := false, openFail := true, cycle := 1 } := ⟨rfl, rfl⟩

theorem witness_OnlyOpenWritesSessionTimeout :
    (closedIdle { Inputs.quiet with openReq := true, openTmo := 8, phyAvail := true }).sampled.rst = false ∧
    step (closedIdle { Inputs.quiet with openReq := true, openTmo := 8, phyAvail := true }) =
      .next { inState .idle [] with sessTmo := 8, cycle := 1 } := ⟨rfl, rfl⟩

theorem witness_OnlyCloseEndsTheSession :
    (inState .idle [{ Inputs.quiet with closeReq := true }]).sampled.rst = false ∧
    step (inState .idle [{ Inputs.quiet with closeReq := true }]) =
      .next { inState .idle [] with sessOpen := false, cycle := 1 } := ⟨rfl, rfl⟩

/-- Acceptance of V-ENC-02 writes `frm`. -/
theorem witness_ContextWrittenOnlyAtAcceptance :
    (let s := inState .idle [{ Inputs.quiet with cmdValid := true, cmdChan := 2, cmdSig := 2 }]
     s.sampled.rst = false ∧ after (step s) (fun t => t.frm != s.frm && t.reqSig != s.reqSig) = true) := by decide

theorem witness_ParametersAreConstant :
    step (inState .done [Inputs.quiet]) = .next { inState .done [] with st := .idle, cycle := 1 } := rfl

/-- The result held, and taken. -/
theorem witness_ResultHeldUntilTaken :
    (let s := inState .done [{ Inputs.quiet with rspReady := false }]
     s.par.legal = true ∧ s.sampled.rst = false ∧ s.st = .done ∧ s.sampled.rspReady = false) ∧
    (let s := inState .done [Inputs.quiet]
     s.par.legal = true ∧ s.sampled.rst = false ∧ s.st = .done ∧ s.sampled.rspReady = true) := by decide

/-- V-CLS-13 in the last cycle of WAIT. -/
theorem witness_CompleteReadingIsReported :
    (let s : State :=
      { inState .wait [Inputs.quiet, Inputs.quiet] with
        rxb := ⟨0xAA, 0x4F, 0x32, 0x54, 0xE8, 0x03, 0x8D, 0x55⟩, rxCnt := 8 }
     s.par.legal = true ∧ s.during 2 Inputs.noReset ∧ s.st = .wait ∧ s.rxCnt = 8 ∧ s.reqShape = .oknak ∧
     s.rxb = ⟨0xAA, 0x4F, 0x32, 0x54, 0xE8, 0x03, 0x32 ^^^ 0x54 ^^^ 0xE8 ^^^ 0x03, 0x55⟩ ∧
     ¬((0x32 : Byte) = 0x53 ∧ (0x54 : Byte) = 0x53)) := by
  unfold State.during; decide

/-- A load of 0 and a load of 2. -/
theorem witness_SettleLastsItsLoad :
    (let s := inState .settle [Inputs.quiet]
     s.par.legal = true ∧ s.st = .settle ∧ s.during (s.tmr.toNat + 1) Inputs.noReset) ∧
    (let s : State := { inState .settle (List.replicate 3 Inputs.quiet) with tmr := 2 }
     s.par.legal = true ∧ s.st = .settle ∧ s.during (s.tmr.toNat + 1) Inputs.noReset) := by
  unfold State.during; decide

theorem witness_RetryWaitLastsItsLoad :
    (let s := inState .rwait [Inputs.quiet]
     s.par.legal = true ∧ s.st = .rwait ∧ s.during (s.tmr.toNat + 1) Inputs.noReset) ∧
    (let s : State := { inState .rwait (List.replicate 3 Inputs.quiet) with tmr := 2 }
     s.par.legal = true ∧ s.st = .rwait ∧ s.during (s.tmr.toNat + 1) Inputs.noReset) := by
  unfold State.during; decide

/-- A window that runs out, and one that is complete. -/
theorem witness_WaitEndsWithinItsLoad :
    (let s : State := { inState .wait (List.replicate 3 Inputs.quiet) with tmr := 2 }
     s.par.legal = true ∧ s.st = .wait ∧ s.during (s.tmr.toNat + 1) Inputs.noReset) ∧
    (let s : State := { inState .wait (List.replicate 3 Inputs.quiet) with tmr := 2, rxCnt := 8 }
     s.par.legal = true ∧ s.st = .wait ∧ s.during (s.tmr.toNat + 1) Inputs.noReset) := by
  unfold State.during; decide

/-- R36, R56 (log 19): reset in a TX cycle, with the transmitter ready and not; the registers are reset in both. -/
theorem test_reset_cycle_transfer :
    after (step (inState .tx [{ Inputs.quiet with rst := true }]))
      (fun t => t.wire == [0xAA] && t.st == .idle && t.txIdx == 0 && t.frm == Frame.zero) = true ∧
    after (step (inState .tx [{ Inputs.quiet with rst := true, txReady := false }]))
      (fun t => t.wire == [] && t.st == .idle) = true ∧
    after (step (inState .rwait [{ Inputs.quiet with rst := true }])) (fun t => t.wire == [] && t.st == .idle) = true := by
  decide

/-- The values of program P4 (three attempts, 68 cycles): the hypotheses of the first clause at the default `A`. -/
theorem witness_UnansweredCommandDuration_three_attempts :
    (let s : State :=
      inState .idle ({ Inputs.quiet with cmdValid := true, cmdTmoOvr := true, cmdTmo := 8 } ::
        List.replicate 67 Inputs.quiet)
     let total := 1 + 3 * (8 + (1 + 1) + (8 + 1) + 1) + (3 - 1) * (2 + 1) + 1
     total = 68 ∧ s.par.maxAttempts = 3 ∧ s.par.legal = true ∧ s.par.retryMask.getLsbD 9 = true ∧ s.st = .idle ∧
     s.sessOpen = true ∧ (s.inputAt 0).cmdValid = true ∧ (s.inputAt 0).cmdKind ≠ 3 ∧
     valueInRange (s.inputAt 0).cmdValue = true ∧
     s.during total (fun i => i.noReset && i.txReady && !i.rxValid) ∧ (s.inputAt (total - 1)).rspReady = true) := by
  unfold State.during; decide

/-- A command without an answer, with one attempt allowed, and one that fails before transmission. -/
theorem witness_UnansweredCommandDuration :
    (let s : State :=
      { inState .idle ({ Inputs.quiet with cmdValid := true, cmdTmoOvr := true, cmdTmo := 1 } ::
          List.replicate 20 Inputs.quiet) with par := { par with maxAttempts := 1 } }
     let total := 1 + 1 * (8 + (1 + 1) + (1 + 1) + 1) + (1 - 1) * (2 + 1) + 1
     s.par.legal = true ∧ s.par.retryMask.getLsbD 9 = true ∧ s.st = .idle ∧ s.sessOpen = true ∧
     (s.inputAt 0).cmdValid = true ∧ (s.inputAt 0).cmdKind ≠ 3 ∧ valueInRange (s.inputAt 0).cmdValue = true ∧
     s.during total (fun i => i.noReset && i.txReady && !i.rxValid) ∧ (s.inputAt (total - 1)).rspReady = true) ∧
    (let s := inState .idle [{ Inputs.quiet with cmdValid := true, cmdKind := 3 }, Inputs.quiet]
     s.par.legal = true ∧ s.st = .idle ∧ (s.inputAt 0).cmdValid = true ∧ (s.inputAt 0).cmdKind = 3 ∧
     s.during 2 Inputs.noReset ∧ (s.inputAt 1).rspReady = true) := by
  unfold State.during; decide

/-- The invariant in IDLE. -/
theorem idle_inv (inputs : List Inputs) : (inState .idle inputs).Inv where
  legal := (by decide : par.legal = true)
  rxCount := Nat.zero_le 8
  rxTail := fun i _ => Frame.byte_zero i
  attempts := Nat.zero_le 3
  unsent := fun _ => .inl rfl
  busyOpen := fun _ => rfl
  busyFrame := fun _ => ⟨.set, .one, .current, 1023, rfl⟩
  txIndex := fun _ => rfl
  openFail := fun h => nomatch h
  retried := fun h => nomatch h
  final := fun h => nomatch h
  doneCode := fun h => nomatch h
  noTooShort := fun h => nomatch h
  settleTimer := fun h => nomatch h
  waitTimer := fun h => nomatch h
  rwaitTimer := fun h => nomatch h

/-- The invariant in the first cycle of TX. -/
theorem tx_inv (inputs : List Inputs) : (inState .tx inputs).Inv where
  legal := (by decide : par.legal = true)
  rxCount := Nat.zero_le 8
  rxTail := fun i _ => Frame.byte_zero i
  attempts := (by decide : 1 ≤ 3)
  unsent := fun h => absurd h (by decide : ¬(1 : Byte) = 0)
  busyOpen := fun _ => rfl
  busyFrame := fun _ => ⟨.set, .one, .current, 1023, rfl⟩
  txIndex := fun _ => rfl
  openFail := fun h => nomatch h
  retried := fun h => nomatch h
  final := fun h => nomatch h
  doneCode := fun h => nomatch h
  noTooShort := fun h => nomatch h
  settleTimer := fun h => nomatch h
  waitTimer := fun h => nomatch h
  rwaitTimer := fun h => nomatch h

/-- The invariant in EVAL with eight bytes received. -/
theorem eval_inv (shape : Shape) (window : Frame) : (evalState shape window).Inv where
  legal := (by decide : par.legal = true)
  rxCount := le_refl 8
  rxTail := by
    intro i hi
    match i, hi with
    | i + 8, _ => rfl
  attempts := (by decide : 1 ≤ 3)
  unsent := fun h => absurd h (by decide : ¬(1 : Byte) = 0)
  busyOpen := fun _ => rfl
  busyFrame := fun _ => ⟨.set, .one, .current, 1023, rfl⟩
  txIndex := fun _ => rfl
  openFail := fun h => nomatch h
  retried := fun h => nomatch h
  final := fun h => nomatch h
  doneCode := fun h => nomatch h
  noTooShort := fun h => nomatch h
  settleTimer := fun h => nomatch h
  waitTimer := fun h => nomatch h
  rwaitTimer := fun h => nomatch h

theorem witness_WireGrowsByOfferedByte_open :
    (inState .tx [Inputs.quiet]).Inv ∧
    step (inState .tx [Inputs.quiet]) = .next { inState .tx [] with txIdx := 1, wire := [0xAA], cycle := 1 } ∧
    ([0xAA] : List Byte) ≠ (inState .tx [Inputs.quiet]).wire :=
  ⟨tx_inv _, rfl, by decide⟩

theorem witness_StepKeepsTheInvariant :
    (inState .tx [Inputs.quiet]).Inv ∧
    step (inState .tx [Inputs.quiet]) = .next { inState .tx [] with txIdx := 1, wire := [0xAA], cycle := 1 } :=
  ⟨tx_inv _, rfl⟩

/-- The reserved kind in IDLE, and a full NAK in EVAL. -/
theorem witness_OfferedResultIsFinal :
    ((inState .idle [{ Inputs.quiet with cmdValid := true, cmdKind := 3 }]).Inv ∧
      step (inState .idle [{ Inputs.quiet with cmdValid := true, cmdKind := 3 }]) =
        .next { inState .done [] with reqTmo := 5, att := 0, reqSig := .pwm, resCode := .invalidCommand, cycle := 1 }) ∧
    ((evalState .oknak ⟨0xAA, 0x4E, 0, 0, 0, 0, 0, 0x55⟩).Inv ∧
      step (evalState .oknak ⟨0xAA, 0x4E, 0, 0, 0, 0, 0, 0x55⟩) =
        .next { evalState .oknak ⟨0xAA, 0x4E, 0, 0, 0, 0, 0, 0x55⟩ with
          st := .done, resCode := .nak, env := [], cycle := 1 }) :=
  ⟨⟨idle_inv _, rfl⟩, ⟨eval_inv _ _, rfl⟩⟩

end Sys2Proof.Tests
end

section
/-! The scope statements (`00_scope.md` R6, R10): a legal configuration always steps, an illegal one is refused, and the
parameters are the fixed ones of the instance. -/

namespace Sys2Proof.Machine

/-! ## A legal configuration never stops (R10) -/

/-- The block has no fault outcome and no refused instruction under legal parameters. -/
theorem step_answers {s : State} (hl : s.par.legal = true) : ∃ t, step s = .next t := by
  cases hr : s.sampled.rst with
  | true => exact ⟨_, step_of_reset hl hr⟩
  | false =>
    cases hf : s.fetch with
    | none => exact ⟨_, step_of_no_fetch hl hr hf⟩
    | some i =>
      obtain ⟨u, hu, _⟩ := exec_answers i s.beginCycle
      exact ⟨_, step_of_fetch hl hr hf hu⟩

/-- Illegal parameters are refused in every cycle, a reset cycle included (log 4). -/
theorem step_of_illegal {s : State} (hl : s.par.legal = false) : step s = .refused .illegalConfiguration := by
  simp [step, hl]

/-- Settles O34: every branch of the step answers, and the guard on the parameters is its only refusal. -/
theorem legalConfigurationNeverStops : Obligations.LegalConfigurationNeverStops :=
  fun _ => ⟨step_answers, step_of_illegal⟩

/-! ## The parameters are constant (R6) -/

theorem exec_par {i : Instr} {s u : State} (hu : exec i s = .next u) : u.par = s.par := by
  obtain ⟨u', hu', hpar, _⟩ := exec_answers i s
  obtain rfl : u' = u := Host.Outcome.next.inj (hu'.symm.trans hu)
  exact hpar

theorem sequence_par (s : State) : s.sequence.par = s.par := by
  obtain ⟨hpar, _⟩ := sequence_sameRun s
  exact hpar

/-- Neither reset, nor an instruction, nor the sequencer without one writes the parameters. -/
theorem step_par {s t : State} (h : step s = .next t) : t.par = s.par := by
  obtain ⟨_, ⟨_, rfl⟩ | ⟨_, i, u, _, hu, rfl⟩ | ⟨_, _, rfl⟩⟩ := step_cases h
  · rfl
  · rw [State.endCycle_par, exec_par hu, State.beginCycle_par]
  · rw [State.endCycle_par, sequence_par, State.beginCycle_par]

/-- Settles O45: by the three kinds of cycle of the step. -/
theorem parametersAreConstant : Obligations.ParametersAreConstant := fun _ _ => step_par

/-! ## The parameter values of this hardware (R6) -/

/-- `CLK_HZ` is one more than a 31-bit number (log 5). -/
theorem clkHz_bounds : 1 ≤ Config.clkHz ∧ Config.clkHz ≤ 2 ^ 31 := by
  have hlt : Config.clkHzLessOne.toNat < 2 ^ 31 := Config.clkHzLessOne.isLt
  unfold Config.clkHz
  omega

/-- The retry wait fits its 32-bit register for every `CLK_HZ`, so it is two seconds of cycles, the last one counted. -/
theorem retryDelay_add_one : Config.retryDelay.toNat + 1 = 2 * Config.clkHz := by
  obtain ⟨hpos, hle⟩ := clkHz_bounds
  have hfits : 2 * Config.clkHz - 1 < 2 ^ 32 := by omega
  rw [Config.retryDelay, BitVec.toNat_ofNat, Nat.mod_eq_of_lt hfits]
  omega

theorem params_legal : Config.params.legal = true := by
  obtain ⟨hclk, _⟩ := clkHz_bounds
  exact (legal_iff _).mpr ⟨by decide, by decide, hclk, by decide⟩

/-- Settles O48: three values by definition, the legality and the retry delay for every `CLK_HZ`. -/
theorem parameterValuesOfThisHardware : Obligations.ParameterValuesOfThisHardware :=
  ⟨rfl, rfl, rfl, params_legal, retryDelay_add_one⟩

end Sys2Proof.Machine
end

section
/-! The state statements (`10_state.md`): what each register is written by, and the invariant of the reachable states. -/

namespace Sys2Proof.Machine

/-! ## What a cycle without reset does

Outside IDLE the fetched row does what the sequencer does with the raw buffers; in IDLE a cycle accepts a command, acts on
the session, or does nothing. -/

/-- A fetch that reads an instruction is a decoder's success. -/
theorem ok_of_toOption {ε α : Type} {x : Except ε α} {a : α} (h : x.toOption = some a) : x = .ok a := by
  cases x with
  | error e => cases h
  | ok b => exact congrArg Except.ok (Option.some.inj h)

/-- An accepted buffer is a request frame, and its row offers the buffer's own bytes (`40_encoder.md` R109). -/
theorem exec_of_decodeRequest {f : Frame} {i : Instr} (s : State) (h : decodeRequest f.toList = .ok i) :
    exec i s = .next (s.offerFrame f) := by
  obtain ⟨b0, b1, b2, b3, b4, b5, b6, b7⟩ := f
  simp only [decodeRequest, Frame.toList] at h
  split at h
  · cases h
  next hm =>
    obtain ⟨rfl, rfl⟩ : b0 = 0xAA ∧ b7 = 0x55 := by simpa using hm
    split at h
    · cases h
    next hsum =>
      obtain rfl := not_not.mp hsum
      split at h
      next c sig hc hsig =>
        obtain rfl := Channel.byte_of_ofByte hc
        obtain rfl := Signal.byte_of_ofByte hsig
        obtain ⟨rfl, rfl⟩ | ⟨rfl, rfl⟩ | ⟨rfl, rfl⟩ := requestInstr_ok h <;>
          simp [exec, execGet, execSet, execPing, encodeRequest]
      · cases h
      · cases h

/-- The row of an `'O'` frame acts with the code R140 computes (`42_classifier.md` R145 to R147). -/
theorem exec_okForm {s : State} (b2 b3 b4 b5 b6 : Byte) (hst : s.st = .eval) (hshape : s.reqShape = .oknak) :
    exec (okForm b2 b3 b4 b5 b6) s =
      .next (s.evalCycle (classifyFull ⟨0xAA, 0x4F, b2, b3, b4, b5, b6, 0x55⟩ .oknak)) := by
  have hclass : classifyFull ⟨0xAA, 0x4F, b2, b3, b4, b5, b6, 0x55⟩ .oknak =
      if responseSum b2 b3 b4 b5 ≠ b6 then .checksumMismatch else sysOrReading b2 b3 := rfl
  rw [hclass]
  unfold okForm sysOrReading
  split_ifs
  · simp [exec, execRspOkBadsum, State.evaluateAs, State.oknakResult, hst, hshape]
  · simp [exec, execRspOkSysinfo, State.evaluateAs, State.oknakResult, hst, hshape]
  · simp [exec, execRspOkReading, State.evaluateAs, State.oknakResult, hst, hshape]

/-- The row of a full frame acts with the code R140 computes. -/
theorem exec_of_fullForm {s : State} {b1 b2 b3 b4 b5 b6 : Byte} {i : Instr} (hst : s.st = .eval)
    (h : fullForm s.reqShape b1 b2 b3 b4 b5 b6 = .ok i) :
    exec i s = .next (s.evalCycle (classifyFull ⟨0xAA, b1, b2, b3, b4, b5, b6, 0x55⟩ s.reqShape)) := by
  obtain ⟨rfl, rfl⟩ | ⟨hs, rfl, rfl⟩ | ⟨hs, rfl, rfl⟩ | ⟨hs, rfl, rfl⟩ | ⟨hs, rfl, rfl⟩ := fullForm_ok h
  · simp [exec, execRspNakFull, State.evaluateAs, hst, classifyFull]
  · rw [hs]
    exact exec_okForm b2 b3 b4 b5 b6 hst hs
  · simp [exec, execRspEchoG, State.evaluateAs, hst, State.echoResult, hs, classifyFull]
  · simp [exec, execRspEchoS, State.evaluateAs, hst, State.echoResult, hs, classifyFull]
  · simp [exec, execRspEchoP, State.evaluateAs, hst, State.echoResult, hs, classifyFull]

/-- The row of a short frame acts with the code R140 computes (R141, R142). -/
theorem exec_of_shortForm {s : State} {b1 b2 : Byte} {i : Instr} (B : Frame) (hst : s.st = .eval)
    (hshort : s.par.acceptShort = true) (hB : B.b1 = b1) (h : shortForm b1 b2 = .ok i) :
    exec i s = .next (s.evalCycle (classifyShort B)) := by
  obtain ⟨rfl, rfl⟩ | ⟨rfl, rfl⟩ := shortForm_ok h
  · simp [exec, execRspShortAck, State.evaluateAs, hst, State.shortResult, hshort, classifyShort, hB]
  · simp [exec, execRspShortNak, State.evaluateAs, hst, State.shortResult, hshort, classifyShort, hB]

/-- A response window of eight bytes is the whole buffer. -/
theorem window_full {s : State} (h : s.rxCnt = 8) : s.window = s.rxb.toList := by
  simp [State.window, h, Frame.toList]

/-- A response window of four bytes (`44_sequencer.md` R185). -/
theorem window_short {s : State} (h : s.rxCnt = 4) : s.window = [s.rxb.b0, s.rxb.b1, s.rxb.b2, s.rxb.b3] := by
  simp [State.window, h, Frame.toList]

/-- The row read from the window acts as the EVAL cycle on the raw bytes (R185). -/
theorem exec_of_fetchWindow {s : State} {i : Instr} (hst : s.st = .eval) (h : s.fetchWindow = some i) :
    exec i s = .next (s.evalCycle s.evaluation) := by
  unfold State.fetchWindow at h
  split at h
  next hcnt =>
    have hdec : decodeResponse s.reqShape s.window = .ok i := ok_of_toOption h
    obtain hcnt | ⟨hcnt, hshort⟩ := hcnt
    · rw [window_full hcnt] at hdec
      obtain ⟨b1, b2, hb, _⟩ | ⟨b1, b2, b3, b4, b5, b6, hb, hform⟩ := decodeResponse_ok hdec
      · simp [Frame.toList, shortResponse] at hb
      · have hrxb : s.rxb = ⟨0xAA, b1, b2, b3, b4, b5, b6, 0x55⟩ := Frame.toList_inj hb
        have heval : s.evaluation = classifyFull s.rxb s.reqShape := by
          simp [State.evaluation, evaluate, hcnt, hb]
        rw [heval, hrxb]
        exact exec_of_fullForm hst hform
    · rw [window_short hcnt] at hdec
      obtain ⟨b1, b2, hb, hform⟩ | ⟨b1, b2, b3, b4, b5, b6, hb, _⟩ := decodeResponse_ok hdec
      · have htake : s.rxb.toList.take 4 = shortResponse b1 b2 := hb
        have heval : s.evaluation = classifyShort s.rxb := by
          simp [State.evaluation, evaluate, hcnt, hshort, htake]
        rw [heval]
        exact exec_of_shortForm s.rxb hst hshort (by simp_all [shortResponse]) hform
      · simp [fullResponse] at hb
  · cases h

/-- Outside IDLE a step without reset is the sequencer's cycle on the raw buffers, row or no row. -/
theorem step_of_busy {s : State} (hl : s.par.legal = true) (hr : s.sampled.rst = false) (hst : s.st ≠ .idle) :
    step s = .next (s.endCycle s.beginCycle.sequence) := by
  cases hf : s.fetch with
  | none => exact step_of_no_fetch hl hr hf
  | some i =>
    refine step_of_fetch hl hr hf ?_
    cases hq : s.st with
    | idle => exact absurd hq hst
    | tx =>
      rw [fetch_tx hq] at hf
      rw [exec_of_decodeRequest _ (ok_of_toOption hf)]
      simp [State.offerFrame, State.sequence, hq]
    | eval =>
      rw [fetch_eval hq] at hf
      rw [exec_of_fetchWindow (s := s.beginCycle) hq hf]
      simp [State.sequence, hq]
    | settle => simp [fetch_wait, hq] at hf
    | wait => simp [fetch_wait, hq] at hf
    | rwait => simp [fetch_wait, hq] at hf
    | done => simp [fetch_wait, hq] at hf

/-- What an IDLE cycle from `s` can lead to: a command accepted or rejected (`40_encoder.md` R102), the session acted on
(`43_session.md` R163), or nothing (`44_sequencer.md` R182). -/
inductive IdleCycle (s : State) : State → Prop
  | accept (hv : s.sampled.cmdValid = true) (k : Kind) (c : Channel) (sig : Signal) (v : Word) (tmo : Option Word)
      (shape : Shape) : IdleCycle s (s.acceptCommand k c sig v tmo shape)
  | reject (hv : s.sampled.cmdValid = true) (sig : Signal) (tmo : Option Word) (shape : Shape) :
      IdleCycle s (s.rejectCommand sig tmo shape)
  | opening (tmo : Word) : IdleCycle s (s.openSession tmo)
  | closing : IdleCycle s s.closeSession
  | quiet : IdleCycle s s

/-- The row of a command is accepted, or rejected if its kind is the reserved one. -/
theorem idleCycle_of_commandInstr {s u : State} {kind : BitVec 2} {c : Channel} {sig : Signal} {o : HostOperands}
    (hst : s.st = .idle) (hv : s.sampled.cmdValid = true) (hu : exec (commandInstr kind c sig o) s = .next u) :
    IdleCycle s u := by
  unfold commandInstr at hu
  split_ifs at hu <;>
    simp only [exec, execSendGet, execSendSet, execSendPing, execPingSys, execSendInvalid, hst, if_true,
      Host.Outcome.next.injEq] at hu <;>
    subst hu
  · exact .accept hv ..
  · exact .accept hv ..
  · exact .accept hv ..
  · exact .accept hv ..
  · exact .reject hv ..

/-- The row of the host word in IDLE does what `IdleCycle` lists. -/
theorem idleCycle_of_decodeHost {s u : State} {i : Instr} (hst : s.st = .idle)
    (hdec : decodeHost s.sampled.hostWord s.sampled.operands = .ok i) (hu : exec i s = .next u) : IdleCycle s u := by
  unfold decodeHost at hdec
  split_ifs at hdec with hvalid <;> cases hdec
  · exact idleCycle_of_commandInstr hst (by simpa [Inputs.hostWord] using hvalid) hu
  · simp only [exec, execCloseSession, hst, if_true, Host.Outcome.next.injEq] at hu
    exact hu ▸ .closing
  · simp only [exec, execOpenSession, hst, if_true, Host.Outcome.next.injEq] at hu
    exact hu ▸ .opening _

/-- Every step by state: a reset cycle, a cycle in IDLE, or the sequencer's cycle outside IDLE. -/
theorem step_cases_by_state {s t : State} (h : step s = .next t) :
    (s.sampled.rst = true ∧ t = s.resetRegisters.advance) ∨
      (s.sampled.rst = false ∧ s.st = .idle ∧ ∃ u, IdleCycle s.beginCycle u ∧ t = s.endCycle u) ∨
      (s.sampled.rst = false ∧ s.st ≠ .idle ∧ t = s.endCycle s.beginCycle.sequence) := by
  obtain ⟨hl, ⟨hr, ht⟩ | ⟨hr, i, u, hf, hu, ht⟩ | ⟨hr, hf, ht⟩⟩ := step_cases h
  · exact .inl ⟨hr, ht⟩
  · by_cases hst : s.st = .idle
    · rw [fetch_idle hst] at hf
      exact .inr (.inl ⟨hr, hst, u, idleCycle_of_decodeHost (s := s.beginCycle) hst (ok_of_toOption hf) hu, ht⟩)
    · rw [step_of_busy hl hr hst] at h
      exact .inr (.inr ⟨hr, hst, (Host.Outcome.next.inj h).symm⟩)
  · by_cases hst : s.st = .idle
    · refine .inr (.inl ⟨hr, hst, s.beginCycle, .quiet, ?_⟩)
      simpa [State.sequence, hst] using ht
    · exact .inr (.inr ⟨hr, hst, ht⟩)

/-! ## The bytes sent (R36) -/

/-- What the transmit stream moves is the offered byte of the outputs, in a ready cycle. -/
theorem linkTransfer_eq_outputs (s : State) :
    s.linkTransfer =
      if s.outputs.txValid = true ∧ s.sampled.txReady = true then [s.outputs.txData] else [] := by
  by_cases hst : s.st = .tx <;> simp [State.linkTransfer, State.outputs, hst]

theorem linkTransfer_of_not_tx {s : State} (h : s.st ≠ .tx) : s.linkTransfer = [] := by simp [State.linkTransfer, h]

/-- Only a TX cycle of the sequencer sends. -/
theorem sequence_wire (s : State) : s.sequence.wire = s.wire ++ s.linkTransfer := by
  unfold State.sequence
  split
  next hst => simp [linkTransfer_of_not_tx, hst]
  next hst => exact s.txCycle_wire hst
  next hst => obtain ⟨_, e⟩ | ⟨_, e⟩ := s.settleCycle_cases <;> simp [e, linkTransfer_of_not_tx, hst]
  next hst => obtain ⟨_, e⟩ | ⟨_, _, e⟩ := s.waitCycle_cases <;> simp [e, linkTransfer_of_not_tx, hst]
  next hst => obtain ⟨_, e⟩ | ⟨_, e⟩ := s.evalCycle_cases s.evaluation <;> simp [e, linkTransfer_of_not_tx, hst]
  next hst => obtain ⟨_, e⟩ | ⟨_, e⟩ := s.rwaitCycle_cases <;> simp [e, linkTransfer_of_not_tx, hst]
  next hst => obtain ⟨_, e⟩ | ⟨_, e⟩ := s.doneCycle_cases <;> simp [e, linkTransfer_of_not_tx, hst]

/-- A cycle in IDLE sends nothing. -/
theorem IdleCycle.wire_eq {s u : State} (h : IdleCycle s u) : u.wire = s.wire := by
  cases h with
  | accept _ k c sig v tmo shape =>
    obtain ⟨_, e⟩ | ⟨_, _, e⟩ | ⟨_, _, e⟩ := s.acceptCommand_cases k c sig v tmo shape <;> simp [e]
  | reject => rfl
  | opening tmo => obtain ⟨_, e⟩ | ⟨_, _, e⟩ | ⟨_, _, e⟩ := s.openSession_cases tmo <;> simp [e]
  | closing => rfl
  | quiet => rfl

/-- Every step records exactly what the transmit stream moves in its cycle. -/
theorem step_wire {s t : State} (h : step s = .next t) : t.wire = s.wire ++ s.linkTransfer := by
  obtain ⟨_, rfl⟩ | ⟨_, hst, u, hu, rfl⟩ | ⟨_, _, rfl⟩ := step_cases_by_state h
  · rfl
  · simp [hu.wire_eq, linkTransfer_of_not_tx, hst]
  · exact (s.endCycle_wire _).trans (sequence_wire s.beginCycle)

/-- Settles O31: a step moves what the transmit stream moves, and that is a byte only in TX, where the session is Open. -/
theorem wireGrowsByOfferedByte : Obligations.WireGrowsByOfferedByte := by
  intro s t h
  refine ⟨linkTransfer_eq_outputs s ▸ step_wire h, fun hinv hgrows => hinv.busyOpen ?_⟩
  obtain ⟨hst, _⟩ | ⟨_, hnone⟩ := s.linkTransfer_cases
  · simp [hst, SeqState.inFlight]
  · exact absurd (by simp [step_wire h, hnone]) hgrows

/-! ## The request frame and the command context (R25, R26) -/

/-- Two states hold the same request frame and the same context of the command. -/
def sameContext (s t : State) : Prop :=
  t.frm = s.frm ∧ t.reqSig = s.reqSig ∧ t.reqShape = s.reqShape ∧ t.reqTmo = s.reqTmo

theorem sameContext_refl (s : State) : sameContext s s := ⟨rfl, rfl, rfl, rfl⟩

/-- The sequencer's own cycles keep the frame and the context, the start of a further attempt included (`40_encoder.md`
R110). -/
theorem sequence_sameContext (s : State) : sameContext s s.sequence := by
  unfold State.sequence
  split
  · exact sameContext_refl s
  · obtain ⟨_, e⟩ | ⟨_, _, e⟩ | ⟨_, _, e⟩ := s.txCycle_cases (s.frm.byte s.txIdx.toNat) <;> rw [e] <;>
      exact ⟨rfl, rfl, rfl, rfl⟩
  · obtain ⟨_, e⟩ | ⟨_, e⟩ := s.settleCycle_cases <;> rw [e] <;> exact ⟨rfl, rfl, rfl, rfl⟩
  · obtain ⟨_, e⟩ | ⟨_, _, e⟩ := s.waitCycle_cases <;> rw [e] <;> exact ⟨rfl, rfl, rfl, rfl⟩
  · obtain ⟨_, e⟩ | ⟨_, e⟩ := s.evalCycle_cases s.evaluation <;> rw [e] <;> exact ⟨rfl, rfl, rfl, rfl⟩
  · obtain ⟨_, e⟩ | ⟨_, e⟩ := s.rwaitCycle_cases <;> rw [e] <;> exact ⟨rfl, rfl, rfl, rfl⟩
  · obtain ⟨_, e⟩ | ⟨_, e⟩ := s.doneCycle_cases <;> rw [e] <;> exact ⟨rfl, rfl, rfl, rfl⟩

/-- In IDLE only the acceptance of a command writes the frame or the context (`20_memory.md` R64). -/
theorem IdleCycle.command_or_sameContext {s u : State} (h : IdleCycle s u) :
    s.sampled.cmdValid = true ∨ sameContext s u := by
  cases h with
  | accept hv => exact .inl hv
  | reject hv => exact .inl hv
  | opening tmo =>
    right
    obtain ⟨_, e⟩ | ⟨_, _, e⟩ | ⟨_, _, e⟩ := s.openSession_cases tmo <;> rw [e] <;> exact ⟨rfl, rfl, rfl, rfl⟩
  | closing => exact .inr ⟨rfl, rfl, rfl, rfl⟩
  | quiet => exact .inr (sameContext_refl s)

/-- The cycle's end captures into the receive buffer only. -/
theorem endCycle_sameContext {s u : State} (h : sameContext s.beginCycle u) : sameContext s (s.endCycle u) := by
  simpa [sameContext] using h

/-- Outside reset a step accepts a command or keeps the frame and the context. -/
theorem step_command_or_sameContext {s t : State} (hr : s.sampled.rst = false) (h : step s = .next t) :
    (s.st = .idle ∧ s.sampled.cmdValid = true) ∨ sameContext s t := by
  obtain ⟨hr', _⟩ | ⟨_, hst, u, hu, rfl⟩ | ⟨_, _, rfl⟩ := step_cases_by_state h
  · simp [hr] at hr'
  · obtain hv | hsame := hu.command_or_sameContext
    · exact .inl ⟨hst, hv⟩
    · exact .inr (endCycle_sameContext hsame)
  · exact .inr (endCycle_sameContext (sequence_sameContext _))

/-- Settles O44: a step that accepts no command keeps all four registers. -/
theorem contextWrittenOnlyAtAcceptance : Obligations.ContextWrittenOnlyAtAcceptance := by
  intro s t hr h hwritten
  obtain haccepted | ⟨hfrm, hsig, hshape, htmo⟩ := step_command_or_sameContext hr h
  · exact haccepted
  · simp [hfrm, hsig, hshape, htmo] at hwritten

/-! ## The result (R32, R188) -/

/-- Outside a response window nothing is captured (`41_decoder.md` R121). -/
theorem captures_of_not_receiving {s : State} (h : s.st.receiving = false) : s.captures = false := by
  simp [State.captures, h]

/-- A DONE cycle: nothing is captured, so the step is `doneCycle` alone. -/
theorem step_done {s : State} (hl : s.par.legal = true) (hr : s.sampled.rst = false) (hst : s.st = .done) :
    step s = .next s.beginCycle.doneCycle.advance := by
  have hcap : s.captures = false := captures_of_not_receiving (by simp [hst, SeqState.receiving])
  rw [step_of_busy hl hr (by simp [hst]), State.endCycle, State.capture_of_not_captures _ _ hcap]
  simp [State.sequence, hst]

/-- Settles O46: the DONE cycle holds the state until `rsp_ready`, and then changes `st` only. -/
theorem resultHeldUntilTaken : Obligations.ResultHeldUntilTaken := by
  intro s hl hr hst
  refine ⟨by simp [State.outputs, hst], by simp [State.outputs, hst], fun hready => ?_, fun hready => ?_⟩ <;>
    rw [step_done hl hr hst] <;>
    obtain ⟨hready', e⟩ | ⟨hready', e⟩ := s.beginCycle.doneCycle_cases
  · rw [e]; rfl
  · simp [hready] at hready'
  · simp [hready] at hready'
  · rw [e]; rfl

/-! ## Reset (R20) -/

/-- Settles O36: the reset cycle loads the reset values, and the link takes the byte offered in it (log 19). -/
theorem resetCycleClearsRegisters : Obligations.ResetCycleClearsRegisters := by
  intro s hl hr
  refine ⟨_, step_of_reset hl hr, ?_⟩
  refine ⟨rfl, rfl, rfl, rfl, rfl, rfl, rfl, rfl, rfl, rfl, rfl, rfl, rfl, rfl, rfl, rfl, rfl, rfl, rfl, rfl, ?_⟩
  exact congrArg (s.wire ++ ·) (linkTransfer_eq_outputs s)

/-- The registers after reset meet the invariant, whatever was sent before. -/
theorem resetRegisters_inv {s : State} (hl : s.par.legal = true) : s.resetRegisters.Inv where
  legal := hl
  rxCount := by simp
  rxTail := by simp
  attempts := by simp
  unsent := by simp
  busyOpen := by simp [SeqState.inFlight]
  busyFrame := by simp [SeqState.inFlight]
  txIndex := by simp
  openFail := by simp
  retried := by simp
  final := by simp
  doneCode := by simp
  noTooShort := by simp
  settleTimer := by simp
  waitTimer := by simp
  rwaitTimer := by simp

/-- Settles O53: the state after reset is the one a reset cycle loads, with this hardware's parameters. -/
theorem resetMeetsTheInvariant : Obligations.ResetMeetsTheInvariant :=
  resetRegisters_inv (s := State.reset) params_legal

/-! ## The invariant (R33)

What the states of an exchange share is stated once, as `State.Busy`; `State.Phase` adds what each phase has of its own. -/

/-- What the invariant says of every state with a command in flight, whatever its phase. -/
structure State.Busy (s : State) : Prop where
  legal : s.par.legal = true
  rxCount : s.rxCnt.toNat ≤ 8
  rxTail : ∀ i, s.rxCnt.toNat ≤ i → s.rxb.byte i = 0
  attempts : s.att.toNat ≤ s.par.maxAttempts
  begun : s.att ≠ 0
  isOpen : s.sessOpen = true
  frame : isRequestFrame s.frm
  noFail : s.openFail = false
  noTooShort : s.resCode ≠ .tooShort

theorem State.Inv.busy {s : State} (h : s.Inv) (hq : s.st.inFlight = true) : s.Busy where
  legal := h.legal
  rxCount := h.rxCount
  rxTail := h.rxTail
  attempts := h.attempts
  begun := fun hatt => by obtain hst | hst := h.unsent hatt <;> simp [hst, SeqState.inFlight] at hq
  isOpen := h.busyOpen hq
  frame := h.busyFrame hq
  noFail := by
    refine Bool.eq_false_iff.mpr fun hfail => ?_
    obtain ⟨hst, _⟩ := h.openFail hfail
    simp [hst, SeqState.inFlight] at hq
  noTooShort := h.noTooShort

/-- What the invariant adds in each phase of an exchange: `tx_idx` is 0 outside TX, the phase's timer is at most its load
(R193), and the result in RWAIT is a retried one (R186). -/
def State.Phase (s : State) : Prop :=
  match s.st with
  | .idle => False
  | .tx => True
  | .settle => s.txIdx = 0 ∧ s.tmr.toNat ≤ s.par.settleCycles.toNat
  | .wait => s.txIdx = 0 ∧ s.tmr.toNat ≤ s.reqTmo.toNat
  | .eval => s.txIdx = 0
  | .rwait => s.txIdx = 0 ∧ s.retries s.resCode = true ∧ s.tmr.toNat ≤ s.par.retryDelay.toNat
  | .done => False

theorem State.Phase.inFlight {s : State} (h : s.Phase) : s.st.inFlight = true := by
  unfold State.Phase at h
  split at h <;> simp_all [SeqState.inFlight]

theorem State.Phase.txIndex {s : State} (h : s.Phase) (hst : s.st ≠ .tx) : s.txIdx = 0 := by
  unfold State.Phase at h
  split at h <;> simp_all

/-- Together with `Inv.busy`: an exchange meets the invariant if its phase does. -/
theorem State.Busy.inv {s : State} (h : s.Busy) (hp : s.Phase) : s.Inv where
  legal := h.legal
  rxCount := h.rxCount
  rxTail := h.rxTail
  attempts := h.attempts
  unsent := fun hatt => absurd hatt h.begun
  busyOpen := fun _ => h.isOpen
  busyFrame := fun _ => h.frame
  txIndex := hp.txIndex
  openFail := by simp [h.noFail]
  retried := fun hst => by simp_all [State.Phase]
  final := fun hst => by simp [State.Phase, hst] at hp
  doneCode := fun hst => by simp [State.Phase, hst] at hp
  noTooShort := h.noTooShort
  settleTimer := fun hst => by simp_all [State.Phase]
  waitTimer := fun hst => by simp_all [State.Phase]
  rwaitTimer := fun hst => by simp_all [State.Phase]

/-- A timer that has not run out counts down without wrapping (`44_sequencer.md` R193). -/
theorem toNat_sub_one_le {w : Word} {n : Nat} (hw : w ≠ 0) (h : w.toNat ≤ n) : (w - 1).toNat ≤ n := by
  bv_omega

/-! ### What `Evaluate` can answer -/

theorem classifyShort_sent (B : Frame) : (classifyShort B).unsent = false ∧ classifyShort B ≠ .tooShort := by
  unfold classifyShort
  split_ifs <;> decide

theorem sysOrReading_sent (b2 b3 : Byte) : (sysOrReading b2 b3).unsent = false ∧ sysOrReading b2 b3 ≠ .tooShort := by
  unfold sysOrReading
  split_ifs <;> decide

theorem classifyFull_sent (B : Frame) (shape : Shape) :
    (classifyFull B shape).unsent = false ∧ classifyFull B shape ≠ .tooShort := by
  unfold classifyFull
  cases shape with
  | oknak =>
    dsimp only
    split_ifs
    · decide
    · decide
    · exact sysOrReading_sent _ _
    · decide
  | echo =>
    dsimp only
    split_ifs
    · decide
    · exact sysOrReading_sent _ _
    · decide

/-- Eight bytes are a full frame or have bad markers (`41_decoder.md` R123). -/
theorem frameVerdict_toList (B : Frame) : frameVerdict B.toList = .full ∨ frameVerdict B.toList = .badMarkers := by
  unfold frameVerdict
  split_ifs <;> simp_all

/-- `Evaluate` answers the result of an attempt that was sent, and never TOO_SHORT (R124, R221). -/
theorem evaluate_sent (a : Bool) (B : Frame) (n : Nat) (shape : Shape) :
    (evaluate a B n shape).unsent = false ∧ evaluate a B n shape ≠ .tooShort := by
  unfold evaluate
  split_ifs
  · obtain hv | hv := frameVerdict_toList B <;> rw [hv]
    · exact classifyFull_sent B shape
    · exact ⟨rfl, nofun⟩
  · exact classifyShort_sent B
  · decide

/-! ### The sequencer's cycles keep the invariant -/

/-- An attempt that begins meets the invariant if its number is legal (R104). -/
theorem startAttempt_inv {s : State} {a : Byte} (hl : s.par.legal = true) (hpos : a ≠ 0)
    (hle : a.toNat ≤ s.par.maxAttempts) (hopen : s.sessOpen = true) (hframe : isRequestFrame s.frm)
    (hfail : s.openFail = false) (hres : s.resCode ≠ .tooShort) : (s.startAttempt a).Inv := by
  have hbusy : (s.startAttempt a).Busy := ⟨hl, by simp, by simp, hle, hpos, hopen, hframe, hfail, hres⟩
  exact hbusy.inv trivial

theorem txCycle_inv {s : State} (h : s.Inv) (hst : s.st = .tx) (b : Byte) : (s.txCycle b).Inv := by
  have hbusy := h.busy (by simp [hst, SeqState.inFlight])
  obtain ⟨_, e⟩ | ⟨_, _, e⟩ | ⟨_, _, e⟩ := s.txCycle_cases b <;> rw [e]
  · exact h
  · exact State.Busy.inv { hbusy with } ⟨rfl, le_rfl⟩
  · exact State.Busy.inv { hbusy with } (by simp [State.Phase, hst])

theorem settleCycle_inv {s : State} (h : s.Inv) (hst : s.st = .settle) : s.settleCycle.Inv := by
  have hbusy := h.busy (by simp [hst, SeqState.inFlight])
  have hidx := h.txIndex (by simp [hst])
  obtain ⟨_, e⟩ | ⟨htmr, e⟩ := s.settleCycle_cases <;> rw [e]
  · exact State.Busy.inv { hbusy with } ⟨hidx, le_rfl⟩
  · have htmr' := toNat_sub_one_le htmr (h.settleTimer hst)
    exact State.Busy.inv { hbusy with } (by simpa only [State.Phase, hst] using ⟨hidx, htmr'⟩)

theorem waitCycle_inv {s : State} (h : s.Inv) (hst : s.st = .wait) : s.waitCycle.Inv := by
  have hbusy := h.busy (by simp [hst, SeqState.inFlight])
  have hidx := h.txIndex (by simp [hst])
  obtain ⟨_, e⟩ | ⟨_, htmr, e⟩ := s.waitCycle_cases <;> rw [e]
  · exact State.Busy.inv { hbusy with } hidx
  · have htmr' := toNat_sub_one_le htmr (h.waitTimer hst)
    exact State.Busy.inv { hbusy with } (by simpa only [State.Phase, hst] using ⟨hidx, htmr'⟩)

/-- The retry was decided with an attempt left, so the next number neither wraps nor exceeds the limit (R186, R187). -/
theorem next_attempt_le {s : State} (hl : s.par.legal = true) {c : ResultCode} (h : s.retries c = true) :
    s.att + 1 ≠ 0 ∧ (s.att + 1).toNat ≤ s.par.maxAttempts := by
  obtain ⟨_, hmax, _⟩ := (legal_iff _).mp hl
  have hlt : s.att.toNat < s.par.maxAttempts := by
    simp only [State.retries, Bool.and_eq_true, decide_eq_true_eq] at h
    exact h.2
  constructor <;> bv_omega

theorem rwaitCycle_inv {s : State} (h : s.Inv) (hst : s.st = .rwait) : s.rwaitCycle.Inv := by
  have hbusy := h.busy (by simp [hst, SeqState.inFlight])
  obtain ⟨_, e⟩ | ⟨htmr, e⟩ := s.rwaitCycle_cases <;> rw [e]
  · obtain ⟨hpos, hle⟩ := next_attempt_le h.legal (h.retried hst)
    exact startAttempt_inv h.legal hpos hle hbusy.isOpen hbusy.frame hbusy.noFail hbusy.noTooShort
  · have hidx := h.txIndex (by simp [hst])
    have hretry := h.retried hst
    have htmr' := toNat_sub_one_le htmr (h.rwaitTimer hst)
    exact State.Busy.inv { hbusy with } (by simpa only [State.Phase, hst] using ⟨hidx, hretry, htmr'⟩)

/-- A finished command meets the invariant if its result is final, and one found before transmission exactly if nothing was
sent (R190, R226). -/
theorem inv_of_done {s : State} (hst : s.st = .done) (hl : s.par.legal = true) (rxCount : s.rxCnt.toNat ≤ 8)
    (rxTail : ∀ i, s.rxCnt.toNat ≤ i → s.rxb.byte i = 0) (attempts : s.att.toNat ≤ s.par.maxAttempts)
    (txIndex : s.txIdx = 0) (noFail : s.openFail = false) (final : s.att ≠ 0 → s.retries s.resCode = false)
    (doneCode : s.resCode.unsent = true ↔ s.att = 0) (noTooShort : s.resCode ≠ .tooShort) : s.Inv where
  legal := hl
  rxCount := rxCount
  rxTail := rxTail
  attempts := attempts
  unsent := fun _ => .inr hst
  busyOpen := by simp [hst, SeqState.inFlight]
  busyFrame := by simp [hst, SeqState.inFlight]
  txIndex := fun _ => txIndex
  openFail := by simp [noFail]
  retried := by simp [hst]
  final := fun _ => final
  doneCode := fun _ => doneCode
  noTooShort := noTooShort
  settleTimer := by simp [hst]
  waitTimer := by simp [hst]
  rwaitTimer := by simp [hst]

theorem evalCycle_inv {s : State} {c : ResultCode} (h : s.Inv) (hst : s.st = .eval) (hsent : c.unsent = false)
    (hshort : c ≠ .tooShort) : (s.evalCycle c).Inv := by
  have hbusy := h.busy (by simp [hst, SeqState.inFlight])
  have hidx := h.txIndex (by simp [hst])
  obtain ⟨hretry, e⟩ | ⟨hfinal, e⟩ := s.evalCycle_cases c <;> rw [e]
  · have hbusy' : (s.retry c).Busy := { hbusy with noTooShort := hshort }
    exact hbusy'.inv ⟨hidx, hretry, le_rfl⟩
  · exact inv_of_done rfl h.legal h.rxCount h.rxTail h.attempts hidx hbusy.noFail (fun _ => hfinal)
      ⟨fun hunsent => by simp [hsent] at hunsent, fun hatt => absurd hatt hbusy.begun⟩ hshort

theorem doneCycle_inv {s : State} (h : s.Inv) (hst : s.st = .done) : s.doneCycle.Inv := by
  obtain ⟨_, e⟩ | ⟨_, e⟩ := s.doneCycle_cases <;> rw [e]
  · exact h
  · exact { h with
      unsent := fun _ => .inl rfl
      busyOpen := by simp [SeqState.inFlight]
      busyFrame := by simp [SeqState.inFlight]
      txIndex := fun _ => h.txIndex (by simp [hst])
      openFail := fun hfail => by simpa [hst] using h.openFail hfail
      retried := by simp
      final := by simp
      doneCode := by simp
      settleTimer := by simp
      waitTimer := by simp
      rwaitTimer := by simp }

/-- The sequencer's own cycles keep the invariant, state by state (R181). -/
theorem sequence_inv {s : State} (h : s.Inv) : s.sequence.Inv := by
  unfold State.sequence
  split
  next => exact h
  next hst => exact txCycle_inv h hst _
  next hst => exact settleCycle_inv h hst
  next hst => exact waitCycle_inv h hst
  next hst =>
    obtain ⟨hsent, hshort⟩ := evaluate_sent s.par.acceptShort s.rxb s.rxCnt.toNat s.reqShape
    exact evalCycle_inv h hst hsent hshort
  next hst => exact rwaitCycle_inv h hst
  next hst => exact doneCycle_inv h hst

/-! ### The cycles in IDLE keep the invariant -/

/-- A command that fails before transmission (R102, R226). -/
theorem finishUnsent_inv {s : State} {c : ResultCode} (hl : s.par.legal = true) (hcnt : s.rxCnt = 0)
    (hrxb : s.rxb = Frame.zero) (hidx : s.txIdx = 0) (hfail : s.openFail = false) (hc : c.unsent = true) :
    (s.finishUnsent c).Inv := by
  refine inv_of_done rfl hl (by simp [hcnt]) (by simp [hrxb]) (by simp) hidx hfail (by simp) (by simp [hc]) ?_
  rintro rfl
  simp [ResultCode.unsent] at hc

theorem rejectCommand_inv {s : State} (hl : s.par.legal = true) (hfail : s.openFail = false) (sig : Signal)
    (tmo : Option Word) (shape : Shape) : (s.rejectCommand sig tmo shape).Inv :=
  finishUnsent_inv hl rfl rfl rfl hfail rfl

/-- A command is refused before transmission or begins its first attempt with the frame it encodes (R101, R102, R111). -/
theorem acceptCommand_inv {s : State} (h : s.Inv) (hfail : s.openFail = false) (k : Kind) (c : Channel) (sig : Signal)
    (v : Word) (tmo : Option Word) (shape : Shape) : (s.acceptCommand k c sig v tmo shape).Inv := by
  obtain ⟨hmin, _⟩ := (legal_iff _).mp h.legal
  obtain ⟨_, e⟩ | ⟨_, _, e⟩ | ⟨_, hopen, e⟩ := s.acceptCommand_cases k c sig v tmo shape <;> rw [e]
  · exact finishUnsent_inv h.legal rfl rfl rfl hfail rfl
  · exact finishUnsent_inv h.legal rfl rfl rfl hfail rfl
  · exact startAttempt_inv h.legal (by decide) hmin hopen ⟨k, c, sig, rawValue v, rfl⟩ hfail h.noTooShort

/-- In IDLE the invariant binds the session registers by `open_fail` alone, so OPEN and CLOSE may write them (R165). -/
theorem State.Inv.withSession {s : State} (h : s.Inv) (hst : s.st = .idle) {o f : Bool} (tmo : Word)
    (hfail : f = true → o = false) : ({ s with sessOpen := o, sessTmo := tmo, openFail := f } : State).Inv :=
  { h with
    busyOpen := by simp [hst, SeqState.inFlight]
    openFail := fun hf => ⟨hst, hfail hf⟩ }

theorem IdleCycle.inv {s u : State} (hu : IdleCycle s u) (h : s.Inv) (hst : s.st = .idle) (hfail : s.openFail = false) :
    u.Inv := by
  cases hu with
  | accept _ k c sig v tmo shape => exact acceptCommand_inv h hfail k c sig v tmo shape
  | reject _ sig tmo shape => exact rejectCommand_inv h.legal hfail sig tmo shape
  | opening tmo =>
    obtain ⟨_, e⟩ | ⟨_, _, e⟩ | ⟨hclosed, _, e⟩ := s.openSession_cases tmo <;> rw [e]
    · exact h.withSession hst s.sessTmo (by simp)
    · exact h.withSession hst tmo (by simp)
    · exact h.withSession hst s.sessTmo (fun _ => hclosed)
  | closing => exact h.withSession hst s.sessTmo (by simp)
  | quiet => exact h

/-! ### The cycle around the transition -/

theorem beginCycle_inv {s : State} (h : s.Inv) : s.beginCycle.Inv := { h with openFail := by simp }

theorem advance_inv {s : State} (h : s.Inv) : s.advance.Inv := { h with }

/-- Capture needs room in the old window, and stores the byte behind those received (`41_decoder.md` R120). -/
theorem capture_inv {s t : State} (hs : s.Inv) (ht : t.Inv) : (s.capture t).Inv := by
  obtain ⟨hcap, e⟩ | ⟨_, e⟩ := s.capture_cases t <;> rw [e]
  · obtain ⟨_, _, hroom⟩ := s.captures_iff.mp hcap
    have hcount : (s.rxCnt + 1).toNat = s.rxCnt.toNat + 1 := by bv_omega
    exact { ht with
      rxCount := by
        rw [State.storeByte_rxCnt, hcount]
        exact hroom
      rxTail := fun i hi => by
        rw [State.storeByte_rxCnt, hcount] at hi
        rw [State.storeByte_rxb, Frame.byte_setByte_other _ _ _ _ (by omega)]
        exact hs.rxTail i (by omega) }
  · exact ht

theorem endCycle_inv {s t : State} (hs : s.Inv) (ht : t.Inv) : (s.endCycle t).Inv := advance_inv (capture_inv hs ht)

/-- Settles O54: by the kinds of cycle, each of which keeps the invariant. -/
theorem stepKeepsTheInvariant : Obligations.StepKeepsTheInvariant := by
  intro s t h hstep
  obtain ⟨_, rfl⟩ | ⟨_, hst, u, hu, rfl⟩ | ⟨_, _, rfl⟩ := step_cases_by_state hstep
  · exact advance_inv (resetRegisters_inv h.legal)
  · exact endCycle_inv h (hu.inv (beginCycle_inv h) hst rfl)
  · exact endCycle_inv h (sequence_inv (beginCycle_inv h))

end Sys2Proof.Machine
end

section
/-! The memory statements (`20_memory.md`): the value field, the transmit stream, the receive stream, and the inputs that a
cycle does not look at. -/

namespace Sys2Proof.Machine

/-! ## The value field (R51, R52) -/

/-- The little-endian value is its two bytes, the high one first. -/
theorem valueOf_eq_append (low high : Byte) : valueOf low high = high ++ low := by
  ext i hi
  rw [BitVec.getElem_append (x := high) (y := low) hi]
  by_cases h : i < 8
  · simp [valueOf, h]
  · have hhigh : i - 8 < 8 := by omega
    simp [valueOf, h, hhigh, BitVec.getLsbD_of_ge low i (by omega)]

/-- Settles O6: the value field is `valueOf` of bytes 4 and 5, and the two directions are inverse by the lemmas on the byte
halves. -/
theorem valueFieldLittleEndian : Obligations.ValueFieldLittleEndian := by
  refine ⟨Frame.value_eq, fun k c s v => ⟨rfl, rfl, ?_⟩, fun _ => rfl, fun _ _ => rfl, fun _ => ⟨rfl, rfl⟩, valueOf_bytes,
    fun b4 b5 => ⟨lowByte_valueOf b4 b5, highByte_valueOf b4 b5⟩⟩
  exact valueOf_bytes v

/-- Settles O7: the outputs read bytes 5 and 4 of `rxb`, and the value is their concatenation. -/
theorem firmwareVersionBytes : Obligations.FirmwareVersionBytes :=
  fun s => ⟨rfl, rfl, valueOf_eq_append s.rxb.b4 s.rxb.b5⟩

/-! ## The transmit stream (R53, R58) -/

/-- Settles O29: a request row in TX is a TX cycle on its own frame, by the three things such a cycle can do. -/
theorem requestFrameTransmits : Obligations.RequestFrameTransmits := by
  intro s c sig v hst after
  have offers (f : Frame) : s.offerFrame f = after f := by
    have htx : s.offerFrame f = s.txCycle (f.byte s.txIdx.toNat) := if_pos hst
    rw [htx]
    obtain ⟨hready, e⟩ | ⟨hready, h7, e⟩ | ⟨hready, h7, e⟩ := s.txCycle_cases (f.byte s.txIdx.toNat) <;> rw [e]
    · simp [after, hready]
    · simp [after, hready, h7, State.send, Frame.byte]
    · simp only [after, hready, h7, Bool.true_eq_false, if_false]
      rfl
  exact ⟨congrArg _ (offers _), congrArg _ (offers _), congrArg _ (offers _)⟩

/-- Every step uses up the inputs of one cycle. -/
theorem step_inputAt {s t : State} (h : step s = .next t) (k : Nat) : t.inputAt k = s.inputAt (k + 1) := by
  have hrun : t.env = s.env.tail ∧ t.cycle = s.cycle + 1 := by
    obtain ⟨_, ⟨_, rfl⟩ | ⟨_, i, u, _, hu, rfl⟩ | ⟨_, _, rfl⟩⟩ := step_cases h
    · exact ⟨rfl, rfl⟩
    · obtain ⟨u', hu', _, henv, hcycle⟩ := exec_answers i s.beginCycle
      obtain rfl : u' = u := Host.Outcome.next.inj (hu'.symm.trans hu)
      simp [henv, hcycle]
    · obtain ⟨_, henv, hcycle⟩ := sequence_sameRun s.beginCycle
      simp [henv, hcycle]
  obtain ⟨henv, hcycle⟩ := hrun
  rw [State.inputAt, State.inputAt, henv, hcycle, List.getElem?_tail, Nat.add_assoc, Nat.add_comm 1 k]

/-- The first of the inputs to come is this cycle's. -/
theorem inputAt_zero (s : State) : s.inputAt 0 = s.sampled := by
  unfold State.inputAt State.sampled
  cases s.env <;> rfl

/-- A demand on the next cycles' inputs holds of this cycle's. -/
theorem State.during.sampled {s : State} {n : Nat} {p : Inputs → Bool} (h : s.during (n + 1) p) : p s.sampled = true :=
  inputAt_zero s ▸ h 0 n.succ_pos

/-- After a step, what is left of the demand is one cycle shorter. -/
theorem State.during.step {s t : State} {n : Nat} {p : Inputs → Bool} (h : s.during (n + 1) p) (hst : step s = .next t) :
    t.during n p := by
  intro k hk
  rw [step_inputAt hst]
  exact h (k + 1) (Nat.succ_lt_succ hk)

theorem noReset_and_txReady (i : Inputs) : (i.noReset && i.txReady) = true ↔ i.rst = false ∧ i.txReady = true := by
  simp [Inputs.noReset]

theorem runSteps_zero (s : State) : runSteps 0 s = .next s := rfl

theorem runSteps_succ {s t : State} (n : Nat) (h : step s = .next t) : runSteps (n + 1) s = runSteps n t := by
  simp [runSteps, Host.Core.run, core, h]

/-- From the byte at an offset on, the wire order is that byte and those behind it. -/
theorem drop_toList (f : Frame) {i : Nat} (h : i < 8) : f.toList.drop i = f.byte i :: f.toList.drop (i + 1) := by
  interval_cases i <;> rfl

/-- A step in TX is the TX cycle on the byte of `frm` at `tx_idx` (`40_encoder.md` R109). -/
theorem step_tx {s : State} (hl : s.par.legal = true) (hr : s.sampled.rst = false) (hst : s.st = .tx) :
    step s = .next (s.endCycle (s.beginCycle.txCycle (s.frm.byte s.txIdx.toNat))) := by
  rw [step_of_busy hl hr (by simp [hst])]
  simp [State.sequence, hst]

/-- What `t` is when the transmitter has taken the bytes of `s.frm` from `tx_idx` on (`40_encoder.md` R109). -/
structure State.SentRest (s t : State) : Prop where
  st : t.st = .settle
  wire : t.wire = s.wire ++ s.frm.toList.drop s.txIdx.toNat
  txIdx : t.txIdx = 0
  tmr : t.tmr = s.par.settleCycles
  frm : t.frm = s.frm
  att : t.att = s.att

/-- The cycle that sends the last byte. -/
theorem step_tx_last {s : State} (hl : s.par.legal = true) (hr : s.sampled.rst = false) (hready : s.sampled.txReady = true)
    (hst : s.st = .tx) (h7 : s.txIdx = 7) : ∃ t, step s = .next t ∧ s.SentRest t := by
  refine ⟨_, step_tx hl hr hst, ?_⟩
  obtain ⟨hready', _⟩ | ⟨_, _, e⟩ | ⟨_, h7', _⟩ := s.beginCycle.txCycle_cases (s.frm.byte s.txIdx.toNat)
  · simp [hready] at hready'
  · rw [e]
    exact ⟨by simp, by simp [h7, Frame.byte, Frame.toList], by simp, by simp, by simp, by simp⟩
  · exact absurd h7 h7'

/-- A cycle that sends a byte before the last: what is left to send afterwards is the rest. -/
theorem step_tx_next {s : State} (hl : s.par.legal = true) (hr : s.sampled.rst = false) (hready : s.sampled.txReady = true)
    (hst : s.st = .tx) (h7 : s.txIdx ≠ 7) :
    ∃ t, step s = .next t ∧ t.st = .tx ∧ t.txIdx.toNat = s.txIdx.toNat + 1 ∧ ∀ u, t.SentRest u → s.SentRest u := by
  refine ⟨_, step_tx hl hr hst, ?_⟩
  obtain ⟨hready', _⟩ | ⟨_, h7', _⟩ | ⟨_, _, e⟩ := s.beginCycle.txCycle_cases (s.frm.byte s.txIdx.toNat)
  · simp [hready] at hready'
  · exact absurd h7' h7
  · have hidx : (s.txIdx + 1).toNat = s.txIdx.toNat + 1 := by bv_omega
    rw [e]
    refine ⟨by simp [hst], by simpa using hidx, fun u hu => ?_⟩
    exact
      { hu with
        wire := by
          have hrest : u.wire = s.wire ++ [s.frm.byte s.txIdx.toNat] ++ s.frm.toList.drop (s.txIdx + 1).toNat := by
            simpa using hu.wire
          rw [hrest, hidx, drop_toList s.frm s.txIdx.isLt, List.append_assoc, List.singleton_append]
        tmr := by simpa using hu.tmr
        frm := by simpa using hu.frm
        att := by simpa using hu.att }

/-- With the transmitter ready, as many cycles as bytes are left send them and start the settle delay. -/
theorem runSteps_tx (n : Nat) : ∀ s : State, s.par.legal = true → s.st = .tx → s.txIdx.toNat + n = 7 →
    s.during (n + 1) (fun i => i.noReset && i.txReady) → ∃ t, runSteps (n + 1) s = .next t ∧ s.SentRest t := by
  induction n with
  | zero =>
    intro s hl hst hidx hin
    obtain ⟨hr, hready⟩ := (noReset_and_txReady _).mp hin.sampled
    obtain ⟨t, ht, hsent⟩ := step_tx_last hl hr hready hst (by bv_omega)
    exact ⟨t, (runSteps_succ 0 ht).trans (runSteps_zero t), hsent⟩
  | succ n ih =>
    intro s hl hst hidx hin
    obtain ⟨hr, hready⟩ := (noReset_and_txReady _).mp hin.sampled
    obtain ⟨t, ht, htst, htidx, hrest⟩ := step_tx_next hl hr hready hst (by bv_omega)
    obtain ⟨u, hu, hsent⟩ := ih t (step_par ht ▸ hl) htst (by omega) (hin.step ht)
    exact ⟨u, (runSteps_succ _ ht).trans hu, hrest u hsent⟩

/-- Settles O30: at `tx_idx` = 0 the bytes left are the whole frame. -/
theorem eightCyclesSendTheFrame : Obligations.EightCyclesSendTheFrame := by
  intro s hl hst hidx hin
  obtain ⟨t, ht, hsent⟩ := runSteps_tx 7 s hl hst (by simp [hidx]) hin
  exact ⟨t, ht, hsent.st, by simpa [hidx] using hsent.wire, hsent.txIdx, hsent.tmr, hsent.frm, hsent.att⟩

/-! ## The receive stream (R61) -/

/-- Settles O38: a window's cycle ends with the capture, which reads the count and the buffer from before the cycle. -/
theorem windowStoresByte : Obligations.WindowStoresByte := by
  intro s t hr hvalid hst hroom h
  have hcap : s.captures = true := s.captures_iff.mpr ⟨hvalid, by obtain hq | hq | hq := hst <;> rw [hq] <;> rfl, hroom⟩
  obtain ⟨hr', _⟩ | ⟨_, hidle, _⟩ | ⟨_, _, rfl⟩ := step_cases_by_state h
  · simp [hr] at hr'
  · simp [hidle] at hst
  · rw [State.endCycle_rxb, State.endCycle_rxCnt, if_pos hcap, if_pos hcap]
    exact ⟨rfl, by bv_omega⟩

/-! ## The same cycle under other inputs

`s.withSampled j` is `s` with the inputs of its cycle replaced by `j`. Every operation that does not read a replaced line
commutes with the replacement, and the end of the cycle uses the inputs up. -/

/-- The state in which this cycle samples the inputs `j`. -/
def State.withSampled (j : Inputs) (s : State) : State := { s with env := j :: s.env.tail }

section
variable (j : Inputs) (s : State)

@[simp] theorem State.withSampled_sampled : (s.withSampled j).sampled = j := rfl
@[simp] theorem State.withSampled_st : (s.withSampled j).st = s.st := rfl
@[simp] theorem State.withSampled_advance : (s.withSampled j).advance = s.advance := rfl

end

theorem withSampled_of_env {s : State} {i : Inputs} {rest : List Inputs} (j : Inputs) (h : s.env = i :: rest) :
    { s with env := j :: rest } = s.withSampled j := by
  simp [State.withSampled, h]

section
variable {j : Inputs} {s : State}

theorem txCycle_withSampled (b : Byte) (htx : j.txReady = s.sampled.txReady) :
    (s.withSampled j).txCycle b = (s.txCycle b).withSampled j := by
  unfold State.txCycle
  rw [State.withSampled_sampled, htx, apply_ite (State.withSampled j), apply_ite (State.withSampled j)]
  rfl

theorem settleCycle_withSampled : (s.withSampled j).settleCycle = s.settleCycle.withSampled j := by
  unfold State.settleCycle
  rw [apply_ite (State.withSampled j)]
  rfl

theorem waitCycle_withSampled : (s.withSampled j).waitCycle = s.waitCycle.withSampled j := by
  unfold State.waitCycle
  rw [apply_ite (State.withSampled j)]
  rfl

theorem evalCycle_withSampled (c : ResultCode) : (s.withSampled j).evalCycle c = (s.evalCycle c).withSampled j := by
  unfold State.evalCycle
  rw [apply_ite (State.withSampled j)]
  rfl

theorem rwaitCycle_withSampled : (s.withSampled j).rwaitCycle = s.rwaitCycle.withSampled j := by
  unfold State.rwaitCycle
  rw [apply_ite (State.withSampled j)]
  rfl

theorem doneCycle_withSampled (hready : j.rspReady = s.sampled.rspReady) :
    (s.withSampled j).doneCycle = s.doneCycle.withSampled j := by
  unfold State.doneCycle
  rw [State.withSampled_sampled, hready, apply_ite (State.withSampled j)]
  rfl

theorem acceptCommand_withSampled (k : Kind) (c : Channel) (sig : Signal) (v : Word) (tmo : Option Word) (shape : Shape) :
    (s.withSampled j).acceptCommand k c sig v tmo shape = (s.acceptCommand k c sig v tmo shape).withSampled j := by
  simp only [State.acceptCommand, apply_ite (State.withSampled j)]
  rfl

theorem openSession_withSampled (tmo : Word) (hphy : j.phyAvail = s.sampled.phyAvail) :
    (s.withSampled j).openSession tmo = (s.openSession tmo).withSampled j := by
  unfold State.openSession
  rw [State.withSampled_sampled, hphy, apply_ite (State.withSampled j), apply_ite (State.withSampled j)]
  rfl

/-- The sequencer reads the two ready lines only (`44_sequencer.md` R181). -/
theorem sequence_withSampled (htx : j.txReady = s.sampled.txReady) (hready : j.rspReady = s.sampled.rspReady) :
    (s.withSampled j).sequence = s.sequence.withSampled j := by
  unfold State.sequence
  rw [State.withSampled_st]
  cases s.st with
  | idle => rfl
  | tx => exact txCycle_withSampled _ htx
  | settle => exact settleCycle_withSampled
  | wait => exact waitCycle_withSampled
  | eval => exact evalCycle_withSampled _
  | rwait => exact rwaitCycle_withSampled
  | done => exact doneCycle_withSampled hready

/-- An operation that acts in one state of the sequencer only. -/
theorem actsIn_withSampled (q : SeqState) {f : State → State} (hf : f (s.withSampled j) = (f s).withSampled j) :
    (if (s.withSampled j).st = q then f (s.withSampled j) else s.withSampled j) =
      (if s.st = q then f s else s).withSampled j := by
  rw [hf, apply_ite (State.withSampled j)]
  rfl

theorem offerFrame_withSampled (f : Frame) (htx : j.txReady = s.sampled.txReady) :
    (s.withSampled j).offerFrame f = (s.offerFrame f).withSampled j :=
  actsIn_withSampled .tx (f := fun t => t.txCycle (f.byte t.txIdx.toNat)) (txCycle_withSampled _ htx)

theorem evaluateAs_withSampled (c : ResultCode) : (s.withSampled j).evaluateAs c = (s.evaluateAs c).withSampled j :=
  actsIn_withSampled .eval (f := State.evalCycle c) (evalCycle_withSampled c)

/-- The instructions read `tx_ready` and `phy_avail` from the inputs, and no other line (log 6). -/
theorem exec_withSampled {i : Instr} {u : State} (htx : j.txReady = s.sampled.txReady)
    (hphy : j.phyAvail = s.sampled.phyAvail) (hu : exec i s = .next u) :
    exec i (s.withSampled j) = .next (u.withSampled j) := by
  cases i <;> obtain rfl := Host.Outcome.next.inj hu <;> refine congrArg Host.Outcome.next ?_
  case get c sig v => exact offerFrame_withSampled _ htx
  case set c sig v => exact offerFrame_withSampled _ htx
  case ping c sig v => exact offerFrame_withSampled _ htx
  case sendGet c sig v tmo shape =>
    exact actsIn_withSampled .idle (f := State.acceptCommand .get c sig v tmo shape) (acceptCommand_withSampled ..)
  case sendSet c sig v tmo shape =>
    exact actsIn_withSampled .idle (f := State.acceptCommand .set c sig v tmo shape) (acceptCommand_withSampled ..)
  case sendPing c sig v tmo shape =>
    exact actsIn_withSampled .idle (f := State.acceptCommand .ping c sig v tmo shape) (acceptCommand_withSampled ..)
  case pingSys tmo shape =>
    exact actsIn_withSampled .idle (f := State.acceptCommand .ping .system .system 0 tmo shape)
      (acceptCommand_withSampled ..)
  case sendInvalid c sig v tmo shape => exact actsIn_withSampled .idle (f := State.rejectCommand sig tmo shape) rfl
  case openSession tmo => exact actsIn_withSampled .idle (f := State.openSession tmo) (openSession_withSampled tmo hphy)
  case closeSession => exact actsIn_withSampled .idle (f := State.closeSession) rfl
  all_goals exact evaluateAs_withSampled _

/-- The instruction of a cycle is read from the host's lines or from the registers. -/
theorem fetch_withSampled (hword : j.hostWord = s.sampled.hostWord) (hops : j.operands = s.sampled.operands) :
    (s.withSampled j).fetch = s.fetch := by
  unfold State.fetch
  rw [State.withSampled_sampled, hword, hops]
  rfl

/-! ### The end of the cycle -/

theorem captures_withSampled :
    (s.withSampled j).captures = (j.rxValid && s.st.receiving && decide (s.rxCnt.toNat < 8)) := rfl

/-- With the receiver's lines unchanged the capture is the same. -/
theorem endCycle_withSampled_of_sameReceiver (u : State) (hvalid : j.rxValid = s.sampled.rxValid)
    (hdata : j.rxData = s.sampled.rxData) : (s.withSampled j).endCycle (u.withSampled j) = s.endCycle u := by
  have hcap : (s.withSampled j).captures = s.captures := by rw [captures_withSampled, hvalid, State.captures]
  unfold State.endCycle State.capture
  rw [hcap, State.withSampled_sampled, hdata]
  split <;> rfl

/-- Where nothing can be captured the receiver's lines do not matter. -/
theorem endCycle_withSampled_of_dropped (u : State) (h : s.st.receiving = false ∨ 8 ≤ s.rxCnt.toNat) :
    (s.withSampled j).endCycle (u.withSampled j) = s.endCycle u := by
  have hcap : s.captures = false := by obtain h | h := h <;> simp [State.captures, h]
  have hcap' : (s.withSampled j).captures = false := by obtain h | h := h <;> simp [captures_withSampled, h]
  rw [State.endCycle, State.endCycle, State.capture_of_not_captures _ _ hcap, State.capture_of_not_captures _ _ hcap',
    State.withSampled_advance]

/-- Two states differ at most in the receive buffer and its count. -/
def sameButReceived (t u : State) : Prop := u = { t with rxb := u.rxb, rxCnt := u.rxCnt }

/-- Capture writes the receive buffer and its count only (`41_decoder.md` R120). -/
theorem endCycle_sameButReceived (u : State) : sameButReceived u.advance (s.endCycle u) := by
  obtain ⟨_, e⟩ | ⟨_, e⟩ := s.capture_cases u <;> rw [State.endCycle, e] <;> rfl

theorem sameButReceived_of_common {r t u : State} (ht : sameButReceived r t) (hu : sameButReceived r u) :
    sameButReceived t u := by
  unfold sameButReceived at *
  rw [ht, hu]

/-! ### The step -/

/-- Under the inputs `j` the step of `s` is the same, or it is so up to the capture at the end of the cycle. -/
def State.SameTransition (s : State) (j : Inputs) : Prop :=
  step (s.withSampled j) = step s ∨
    ∃ u, step s = .next (s.endCycle u) ∧ step (s.withSampled j) = .next ((s.withSampled j).endCycle (u.withSampled j))

/-- The step is the same if the cycle's end is. -/
theorem State.SameTransition.step_eq (h : s.SameTransition j)
    (hend : ∀ u : State, (s.withSampled j).endCycle (u.withSampled j) = s.endCycle u) :
    step (s.withSampled j) = step s := by
  obtain h | ⟨u, hs, hj⟩ := h
  · exact h
  · rw [hj, hs, hend u]

/-- A refused step and a reset cycle need no more than equal `rst` and `tx_ready` lines; other cycles are left to show. -/
theorem sameTransition_of_running (hrst : j.rst = s.sampled.rst) (htx : j.txReady = s.sampled.txReady)
    (hrun : s.par.legal = true → s.sampled.rst = false → s.SameTransition j) : s.SameTransition j := by
  cases hl : s.par.legal with
  | false => exact .inl ((step_of_illegal (s := s.withSampled j) hl).trans (step_of_illegal hl).symm)
  | true =>
    cases hr : s.sampled.rst with
    | false => exact hrun hl hr
    | true =>
      have hlink : (s.withSampled j).linkTransfer = s.linkTransfer := by
        simp only [State.linkTransfer, State.withSampled_sampled, htx]
        rfl
      left
      rw [step_of_reset (s := s.withSampled j) hl (hrst.trans hr), step_of_reset hl hr, State.resetRegisters, hlink]
      rfl

/-- Outside IDLE a cycle reads `rst`, the two ready lines and the receiver's. -/
theorem sameTransition_of_busy (hrst : j.rst = s.sampled.rst) (htx : j.txReady = s.sampled.txReady)
    (hready : j.rspReady = s.sampled.rspReady) (hst : s.st ≠ .idle) : s.SameTransition j := by
  refine sameTransition_of_running hrst htx fun hl hr => .inr ⟨_, step_of_busy hl hr hst, ?_⟩
  rw [step_of_busy (s := s.withSampled j) hl (hrst.trans hr) hst]
  exact congrArg (fun u => Host.Outcome.next ((s.withSampled j).endCycle u))
    (sequence_withSampled (s := s.beginCycle) htx hready)

/-- Capture apart, a cycle does not read the receiver's lines, whatever its state. -/
theorem sameTransition_of_lines (hrst : j.rst = s.sampled.rst) (htx : j.txReady = s.sampled.txReady)
    (hready : j.rspReady = s.sampled.rspReady) (hphy : j.phyAvail = s.sampled.phyAvail)
    (hword : j.hostWord = s.sampled.hostWord) (hops : j.operands = s.sampled.operands) : s.SameTransition j := by
  refine sameTransition_of_running hrst htx fun hl hr => .inr ?_
  have hr' : (s.withSampled j).sampled.rst = false := hrst.trans hr
  have hfetch : (s.withSampled j).fetch = s.fetch := fetch_withSampled hword hops
  cases hf : s.fetch with
  | none =>
    refine ⟨_, step_of_no_fetch hl hr hf, ?_⟩
    rw [step_of_no_fetch (s := s.withSampled j) hl hr' (hfetch.trans hf)]
    exact congrArg (fun u => Host.Outcome.next ((s.withSampled j).endCycle u))
      (sequence_withSampled (s := s.beginCycle) htx hready)
  | some i =>
    obtain ⟨u, hu, _⟩ := exec_answers i s.beginCycle
    exact ⟨u, step_of_fetch hl hr hf hu,
      step_of_fetch (s := s.withSampled j) hl hr' (hfetch.trans hf) (exec_withSampled (s := s.beginCycle) htx hphy hu)⟩

end

/-- Settles O39: the receiver's lines reach the capture only, which drops the byte outside a window and beyond eight. -/
theorem droppedByteHasNoEffect : Obligations.DroppedByteHasNoEffect := by
  intro s i rest v b henv
  obtain rfl : s.sampled = i := sampled_cons henv
  have hsame : s.SameTransition { s.sampled with rxValid := v, rxData := b } :=
    sameTransition_of_lines rfl rfl rfl rfl rfl rfl
  rw [withSampled_of_env _ henv]
  refine ⟨fun hdrop => hsame.step_eq fun u => endCycle_withSampled_of_dropped u ?_, fun t u ht hu => ?_⟩
  · obtain hq | hq | hq | hq | hfull := hdrop
    case inr.inr.inr.inr => exact .inr hfull
    all_goals exact .inl (by rw [hq]; rfl)
  · obtain heq | ⟨w, hs, hj⟩ := hsame
    · obtain rfl : u = t := Host.Outcome.next.inj (hu.symm.trans (heq.trans ht))
      rfl
    · obtain rfl : t = s.endCycle w := Host.Outcome.next.inj (ht.symm.trans hs)
      obtain rfl := Host.Outcome.next.inj (hu.symm.trans hj)
      exact sameButReceived_of_common (endCycle_sameButReceived w) (endCycle_sameButReceived (w.withSampled _))

/-- Settles O40: outside IDLE a cycle reads none of the host's lines. -/
theorem hostLinesIgnoredWhileBusy : Obligations.HostLinesIgnoredWhileBusy := by
  intro s i k rest hst henv
  obtain rfl : s.sampled = i := sampled_cons henv
  have hsame : s.SameTransition (s.sampled.withHostLines k) := sameTransition_of_busy rfl rfl rfl hst
  rw [withSampled_of_env _ henv]
  exact hsame.step_eq fun u => endCycle_withSampled_of_sameReceiver u rfl rfl

end Sys2Proof.Machine
end

section
/-! The encoding statements (`30_encoding.md`): decoder and encoder are inverse on the three sources, what each host word
means, and words written out. -/

namespace Sys2Proof

/-! ## Request frames (R71, R74, R81) -/

/-- The request row of a command kind (`40_encoder.md` R106 to R108). -/
def Kind.request (k : Kind) (c : Channel) (s : Signal) (v : Half) : Instr :=
  match k with
  | .get => .get c s v
  | .set => .set c s v
  | .ping => .ping c s v

theorem encode_request (k : Kind) (c : Channel) (s : Signal) (v : Half) :
    encode (k.request c s v) = .request (encodeRequest k c s v).toList := by cases k <;> rfl

theorem wellFormed_request (k : Kind) (c : Channel) (s : Signal) (v : Half) : (k.request c s v).wellFormed = true := by
  cases k <;> rfl

theorem requestInstr_byte (k : Kind) (c : Channel) (s : Signal) (v : Half) :
    requestInstr k.byte c s v = .ok (k.request c s v) := by cases k <;> rfl

/-- The command byte that is answered with a row is the byte of the row's kind. -/
theorem kind_of_requestInstr {b1 : Byte} {c : Channel} {s : Signal} {v : Half} {i : Instr}
    (h : requestInstr b1 c s v = .ok i) : ∃ k : Kind, b1 = k.byte ∧ i = k.request c s v := by
  obtain ⟨hb, hi⟩ | ⟨hb, hi⟩ | ⟨hb, hi⟩ := requestInstr_ok h
  · exact ⟨.get, hb, hi⟩
  · exact ⟨.set, hb, hi⟩
  · exact ⟨.ping, hb, hi⟩

@[simp] theorem decodeRequest_encodeRequest (k : Kind) (c : Channel) (s : Signal) (v : Half) :
    decodeRequest (encodeRequest k c s v).toList = .ok (k.request c s v) := by
  simp [decodeRequest, encodeRequest, Frame.toList, requestInstr_byte]

/-- What `decodeRequest` has read: the frame `Encode` builds of a kind, a channel, a signal and a value. -/
theorem decodeRequest_ok {bs : List Byte} {i : Instr} (h : decodeRequest bs = .ok i) :
    ∃ k c s v, bs = (encodeRequest k c s v).toList ∧ i = Kind.request k c s v := by
  unfold decodeRequest at h
  split at h
  next b0 b1 b2 b3 b4 b5 b6 b7 =>
    split_ifs at h with hmark hsum
    obtain ⟨rfl, rfl⟩ : b0 = 0xAA ∧ b7 = 0x55 := by simpa using hmark
    obtain rfl := not_not.mp hsum
    split at h
    next c s hc hs =>
      obtain rfl := Channel.byte_of_ofByte hc
      obtain rfl := Signal.byte_of_ofByte hs
      obtain ⟨k, rfl, rfl⟩ := kind_of_requestInstr h
      exact ⟨k, c, s, valueOf b4 b5, by simp [encodeRequest, Frame.toList], rfl⟩
    · cases h
    · cases h
  · cases h

/-! ## Response frames (R76 to R79, R85) -/

theorem wellFormed_rspOkReading {light sig low high : Byte} :
    (Instr.rspOkReading light sig low high).wellFormed = true ↔ ¬(light = 0x53 ∧ sig = 0x53) := by
  simp [Instr.wellFormed, not_and_or, -not_and]

theorem wellFormed_rspOkBadsum {light sig low high sum : Byte} :
    (Instr.rspOkBadsum light sig low high sum).wellFormed = true ↔ responseSum light sig low high ≠ sum := bne_iff_ne

/-- The row of an `'O'` frame is well-formed, applies under the OKNAK shape, and keeps every byte. -/
theorem okForm_faithful (b2 b3 b4 b5 b6 : Byte) :
    (okForm b2 b3 b4 b5 b6).wellFormed = true ∧ (okForm b2 b3 b4 b5 b6).admits .oknak = true ∧
      encode (okForm b2 b3 b4 b5 b6) = .response (fullResponse 0x4F b2 b3 b4 b5 b6) := by
  unfold okForm
  split_ifs with hsum hsys
  · exact ⟨wellFormed_rspOkBadsum.mpr hsum, rfl, rfl⟩
  · obtain ⟨rfl, rfl⟩ := hsys
    obtain rfl := not_not.mp hsum
    exact ⟨rfl, rfl, rfl⟩
  · obtain rfl := not_not.mp hsum
    exact ⟨wellFormed_rspOkReading.mpr hsys, rfl, rfl⟩

theorem okForm_sysinfo (low high : Byte) :
    okForm 0x53 0x53 low high (responseSum 0x53 0x53 low high) = .rspOkSysinfo low high := by simp [okForm]

theorem okForm_reading {light sig low high : Byte} (h : (Instr.rspOkReading light sig low high).wellFormed = true) :
    okForm light sig low high (responseSum light sig low high) = .rspOkReading light sig low high := by
  unfold okForm
  rw [if_neg (not_not.mpr rfl), if_neg (wellFormed_rspOkReading.mp h)]

theorem okForm_badsum {light sig low high sum : Byte}
    (h : (Instr.rspOkBadsum light sig low high sum).wellFormed = true) :
    okForm light sig low high sum = .rspOkBadsum light sig low high sum := if_pos (wellFormed_rspOkBadsum.mp h)

theorem decodeResponse_okStatus (b2 b3 b4 b5 b6 : Byte) :
    decodeResponse .oknak (fullResponse 0x4F b2 b3 b4 b5 b6) = .ok (okForm b2 b3 b4 b5 b6) :=
  decodeResponse_fullResponse ..

/-- Whatever the response decoder answers is well-formed, applies under the shape, and encodes to the bytes read. -/
theorem decodeResponse_faithful {shape : Shape} {bs : List Byte} {i : Instr} (h : decodeResponse shape bs = .ok i) :
    i.wellFormed = true ∧ i.admits shape = true ∧ encode i = .response bs := by
  obtain ⟨b1, b2, rfl, hform⟩ | ⟨b1, b2, b3, b4, b5, b6, rfl, hform⟩ := decodeResponse_ok h
  · obtain ⟨rfl, rfl⟩ | ⟨rfl, rfl⟩ := shortForm_ok hform
    · exact ⟨rfl, rfl, rfl⟩
    · exact ⟨rfl, rfl, rfl⟩
  · obtain ⟨rfl, rfl⟩ | ⟨rfl, rfl, rfl⟩ | ⟨rfl, rfl, rfl⟩ | ⟨rfl, rfl, rfl⟩ | ⟨rfl, rfl, rfl⟩ := fullForm_ok hform
    · exact ⟨rfl, rfl, rfl⟩
    · exact okForm_faithful b2 b3 b4 b5 b6
    · exact ⟨rfl, rfl, rfl⟩
    · exact ⟨rfl, rfl, rfl⟩
    · exact ⟨rfl, rfl, rfl⟩

/-- Settles O2: by what each frame decoder has read when it answers. -/
theorem acceptedFrameIsItsEncoding : Obligations.AcceptedFrameIsItsEncoding := by
  refine fun shape bs i => ⟨fun h => ?_, decodeResponse_faithful⟩
  obtain ⟨k, c, s, v, rfl, rfl⟩ := decodeRequest_ok h
  exact ⟨wellFormed_request k c s v, encode_request k c s v⟩

/-! ## Host words (R85) -/

/-- A word with `cmd_valid` is the command of its fields, whatever the session lines are. -/
theorem decodeHost_command (kind chan sig : BitVec 2) (o c : Bool) (ops : HostOperands) :
    decodeHost (hostWord true kind chan sig o c) ops =
      .ok (commandInstr kind (Channel.ofCode chan) (Signal.ofCode sig) ops) := by
  simp [decodeHost]

/-- A word without a command is what its session lines ask for, CLOSE first (`43_session.md` R163). -/
theorem decodeHost_session (kind chan sig : BitVec 2) (o c : Bool) (ops : HostOperands) :
    decodeHost (hostWord false kind chan sig o c) ops =
      if c then .ok .closeSession else if o then .ok (.openSession ops.openTmo) else .error .noRequest := by
  simp [decodeHost]

theorem Channel.ofCode_eq_system {c : BitVec 2} : Channel.ofCode c = .system ↔ c = 0 := by revert c; decide

theorem Signal.ofCode_eq_system {c : BitVec 2} : Signal.ofCode c = .system ↔ c = 3 := by revert c; decide

/-- The command of the PING code: the row PING_SYS or the row SEND_PING (log 7). -/
theorem commandInstr_ping (c : Channel) (s : Signal) (o : HostOperands) :
    commandInstr 2 c s o =
      if c = .system ∧ s = .system ∧ o.value = 0 then .pingSys o.tmo? (Shape.ofBit o.shape)
      else .sendPing c s o.value o.tmo? (Shape.ofBit o.shape) := rfl

/-- Settles O3: the command clauses are the four codes of `cmd_kind`, the others the two session lines. -/
theorem hostWordMeaning : Obligations.HostWordMeaning := by
  intro kind chan sig o c ops
  refine ⟨decodeHost_command .., decodeHost_command .., ?_, decodeHost_command .., decodeHost_session ..,
    decodeHost_session .., decodeHost_session ..⟩
  simp only [decodeHost_command, commandInstr_ping, Channel.ofCode_eq_system, Signal.ofCode_eq_system, apply_ite Except.ok]

/-- The word of a command is read back as the command of its kind code, channel, signal and operands. -/
@[simp] theorem decodeHost_commandWord (kind : BitVec 2) (c : Channel) (s : Signal) (o : HostOperands) :
    decodeHost (commandWord kind c s) o = .ok (commandInstr kind c s o) := by
  rw [commandWord, decodeHost_command, Channel.ofCode_code, Signal.ofCode_code]

@[simp] theorem commandOperands_value (v : Word) (tmo : Option Word) (shape : Shape) :
    (commandOperands v tmo shape).value = v := rfl

@[simp] theorem commandOperands_shape (v : Word) (tmo : Option Word) (shape : Shape) :
    (commandOperands v tmo shape).shape = shape.bit := rfl

theorem wellFormed_sendPing {c : Channel} {s : Signal} {v : Word} {tmo : Option Word} {shape : Shape} :
    (Instr.sendPing c s v tmo shape).wellFormed = true ↔ ¬(c = .system ∧ s = .system ∧ v = 0) := by
  simp [Instr.wellFormed, not_and_or, or_assoc, -not_and]

/-! ## The round trip -/

/-- Settles O1: by the source each row is read from: a request frame, a response frame or a host word. -/
theorem decodeInvertsEncode : Obligations.DecodeInvertsEncode := by
  intro i shape hwf hadm
  cases i with
  | get c s v => exact decodeRequest_encodeRequest .get c s v
  | set c s v => exact decodeRequest_encodeRequest .set c s v
  | ping c s v => exact decodeRequest_encodeRequest .ping c s v
  | rspOkSysinfo low high =>
    obtain rfl : shape = .oknak := by simpa [Instr.admits] using hadm
    exact (decodeResponse_okStatus ..).trans (congrArg Except.ok (okForm_sysinfo low high))
  | rspOkReading light sig low high =>
    obtain rfl : shape = .oknak := by simpa [Instr.admits] using hadm
    exact (decodeResponse_okStatus ..).trans (congrArg Except.ok (okForm_reading hwf))
  | rspOkBadsum light sig low high sum =>
    obtain rfl : shape = .oknak := by simpa [Instr.admits] using hadm
    exact (decodeResponse_okStatus ..).trans (congrArg Except.ok (okForm_badsum hwf))
  | rspNakFull b2 b3 b4 b5 b6 => exact decodeResponse_fullResponse ..
  | rspEchoG light sig low high b6 =>
    obtain rfl : shape = .echo := by simpa [Instr.admits] using hadm
    simp [encode, decode, fullForm]
  | rspEchoS light sig low high b6 =>
    obtain rfl : shape = .echo := by simpa [Instr.admits] using hadm
    simp [encode, decode, fullForm]
  | rspEchoP light sig low high b6 =>
    obtain rfl : shape = .echo := by simpa [Instr.admits] using hadm
    simp [encode, decode, fullForm]
  | rspShortAck b2 => exact decodeResponse_shortResponse shape 0x4F b2
  | rspShortNak b2 => exact decodeResponse_shortResponse shape 0x4E b2
  | sendGet c s v tmo sh => simp [encode, decode, commandInstr]
  | sendSet c s v tmo sh => simp [encode, decode, commandInstr]
  | sendPing c s v tmo sh =>
    simpa [encode, decode, commandInstr] using wellFormed_sendPing.mp hwf
  | pingSys tmo sh => simp [encode, decode, commandInstr]
  | sendInvalid c s v tmo sh => simp [encode, decode, commandInstr]
  | openSession tmo => rfl
  | closeSession => rfl

/-- Settles O4: each word is read by evaluating the decoder. -/
theorem writtenWordsDecode : Obligations.WrittenWordsDecode := ⟨rfl, rfl, rfl, rfl, rfl, rfl, rfl⟩

end Sys2Proof
end

section
/-! The encoding statements about the machine: a placed word is fetched and run, and the acceptance cycles of the two
commands whose word or kind the rules single out (R82, R84). -/

namespace Sys2Proof

/-! ## Which shape reads a response

`placeWindow` keeps the shape in force if it recognises the sequence, and takes the other one if not (log 11). -/

theorem isOk_of_ok {ε α : Type} {x : Except ε α} {a : α} (h : x = .ok a) : x.isOk = true := by rw [h]; rfl

theorem isOk_of_error {ε α : Type} {x : Except ε α} {e : ε} (h : x = .error e) : x.isOk = false := by rw [h]; rfl

theorem Shape.other_other (shape : Shape) : shape.other.other = shape := by cases shape <;> rfl

theorem Shape.eq_or_eq_other (a b : Shape) : a = b ∨ a = b.other := by cases a <;> cases b <;> simp [Shape.other]

/-- A full frame that one shape recognises is the same NAK under the other shape, or an unknown status there. -/
theorem fullForm_other {shape : Shape} {b1 b2 b3 b4 b5 b6 : Byte} {i : Instr}
    (h : fullForm shape b1 b2 b3 b4 b5 b6 = .ok i) :
    fullForm shape.other b1 b2 b3 b4 b5 b6 = .ok i ∨
      fullForm shape.other b1 b2 b3 b4 b5 b6 = .error .unknownStatus := by
  obtain ⟨rfl, rfl⟩ | ⟨rfl, rfl, rfl⟩ | ⟨rfl, rfl, rfl⟩ | ⟨rfl, rfl, rfl⟩ | ⟨rfl, rfl, rfl⟩ := fullForm_ok h
  · exact .inl rfl
  · exact .inr rfl
  · exact .inr rfl
  · exact .inr rfl
  · exact .inr rfl

/-- No sequence is read as one row under a shape and as another row under the other. -/
theorem decodeResponse_other {shape : Shape} {bs : List Byte} {i : Instr} (h : decodeResponse shape bs = .ok i) :
    decodeResponse shape.other bs = .ok i ∨ decodeResponse shape.other bs = .error .unknownStatus := by
  obtain ⟨b1, b2, rfl, hform⟩ | ⟨b1, b2, b3, b4, b5, b6, rfl, hform⟩ := decodeResponse_ok h
  · exact .inl ((decodeResponse_shortResponse ..).trans hform)
  · rw [decodeResponse_fullResponse]
    exact fullForm_other hform

/-- A sequence that some shape reads as `i` is read as `i` under the shape `placeWindow` chooses. -/
theorem decodeResponse_placedShape {shape : Shape} {bs : List Byte} {i : Instr} (present : Shape)
    (h : decodeResponse shape bs = .ok i) :
    decodeResponse (if (decodeResponse present bs).isOk then present else present.other) bs = .ok i := by
  obtain rfl | rfl := Shape.eq_or_eq_other present shape
  · rwa [if_pos (isOk_of_ok h)]
  · obtain hother | hother := decodeResponse_other h
    · rwa [if_pos (isOk_of_ok hother)]
    · rwa [isOk_of_error hother, if_neg Bool.false_ne_true, Shape.other_other]

/-- What `decodeFull` has read: a request frame, or else a response frame under some shape (log 8). -/
theorem decodeFull_some {bs : List Byte} {i : Instr} (h : decodeFull bs = some i) :
    decodeRequest bs = .ok i ∨ ((decodeRequest bs).isOk = false ∧ ∃ shape, decodeResponse shape bs = .ok i) := by
  unfold decodeFull at h
  split at h
  next j hreq => exact .inl (hreq.trans (congrArg Except.ok (Option.some.inj h)))
  next e hreq =>
    refine .inr ⟨isOk_of_error hreq, ?_⟩
    split at h
    next j hrsp => exact ⟨.oknak, hrsp.trans (congrArg Except.ok (Option.some.inj h))⟩
    · exact ⟨.echo, Machine.ok_of_toOption h⟩

/-- A host word is its fields put together (R85). -/
theorem hostWord_fields (h : BitVec 9) :
    hostWord (h.getLsbD 8) (h.extractLsb' 6 2) (h.extractLsb' 4 2) (h.extractLsb' 2 2) (h.getLsbD 1) (h.getLsbD 0) = h := by
  revert h; decide

end Sys2Proof

namespace Sys2Proof.Machine

/-! ## Placed words (log 11) -/

@[simp] theorem Inputs.present_hostWord (i : Inputs) (h : BitVec 9) (o : HostOperands) : (i.present h o).hostWord = h :=
  hostWord_fields h

@[simp] theorem Inputs.present_operands (i : Inputs) (h : BitVec 9) (o : HostOperands) : (i.present h o).operands = o := rfl

@[simp] theorem withInputs_par (s : State) (f : Inputs → Inputs) : (s.withInputs f).par = s.par := by
  unfold State.withInputs
  split <;> rfl

/-- The inputs of the cycle are the changed ones. -/
theorem withInputs_sampled (s : State) (f : Inputs → Inputs) : ∃ i, (s.withInputs f).sampled = f i := by
  unfold State.withInputs
  split
  · exact ⟨_, rfl⟩
  · exact ⟨_, rfl⟩

theorem placeHost_sampled (s : State) (w : Nat) :
    ∃ i : Inputs, (s.placeHost w).sampled = i.present (BitVec.ofNat 9 w) HostOperands.zero :=
  withInputs_sampled s _

/-- Every way of placing a word keeps the parameters and does not assert reset. -/
theorem withFetchWord_par_and_rst (s : State) (nbits w : Nat) :
    (s.withFetchWord nbits w).par = s.par ∧ (s.withFetchWord nbits w).sampled.rst = false := by
  have quiet {f : Inputs → Inputs} (hf : ∀ i, (f i).rst = false) : (s.withInputs f).sampled.rst = false := by
    obtain ⟨i, hi⟩ := withInputs_sampled s f
    rw [hi, hf]
  unfold State.withFetchWord State.placeFull
  split_ifs
  · exact ⟨withInputs_par s _, quiet fun _ => rfl⟩
  · exact ⟨withInputs_par s _, quiet fun _ => rfl⟩
  · exact ⟨withInputs_par s _, quiet fun _ => rfl⟩
  · exact ⟨withInputs_par s _, quiet fun _ => rfl⟩

theorem placeHost_fetch {s : State} {w : Nat} {i : Instr}
    (h : decodeHost (BitVec.ofNat 9 w) HostOperands.zero = .ok i) : (s.placeHost w).fetch = some i := by
  obtain ⟨j, hj⟩ := placeHost_sampled s w
  rw [fetch_idle rfl, hj, Inputs.present_hostWord, Inputs.present_operands, h]
  rfl

theorem placeRequest_fetch {s : State} {bs : List Byte} {i : Instr} (h : decodeRequest bs = .ok i) :
    (s.placeRequest bs).fetch = some i := by
  obtain ⟨k, c, sig, v, rfl, _⟩ := decodeRequest_ok h
  have hfrm : (s.placeRequest (encodeRequest k c sig v).toList).frm = encodeRequest k c sig v := rfl
  rw [fetch_tx rfl, hfrm, h]
  rfl

/-- A placed frame of either length is complete, and the window holds it. -/
theorem placeWindow_complete {s : State} {shape : Shape} {bs : List Byte} {i : Instr} (hshort : s.par.acceptShort = true)
    (h : decodeResponse shape bs = .ok i) :
    ((s.placeWindow bs).rxCnt = 8 ∨ (s.placeWindow bs).rxCnt = 4 ∧ (s.placeWindow bs).par.acceptShort = true) ∧
      (s.placeWindow bs).window = bs := by
  obtain ⟨b1, b2, rfl, _⟩ | ⟨b1, b2, b3, b4, b5, b6, rfl, _⟩ := decodeResponse_ok h
  · exact ⟨.inr ⟨rfl, (congrArg Params.acceptShort (withInputs_par s _)).trans hshort⟩, window_short rfl⟩
  · exact ⟨.inl rfl, window_full rfl⟩

theorem placeWindow_fetch {s : State} {shape : Shape} {bs : List Byte} {i : Instr} (hshort : s.par.acceptShort = true)
    (h : decodeResponse shape bs = .ok i) : (s.placeWindow bs).fetch = some i := by
  obtain ⟨hcomplete, hwindow⟩ := placeWindow_complete hshort h
  have hshape : decodeResponse (s.placeWindow bs).reqShape bs = .ok i := decodeResponse_placedShape s.reqShape h
  rw [fetch_eval rfl, State.fetchWindow, if_pos hcomplete, hwindow, hshape]
  rfl

theorem placeFull_fetch {s : State} {bs : List Byte} {i : Instr} (hshort : s.par.acceptShort = true)
    (h : decodeFull bs = some i) : (s.placeFull bs).fetch = some i := by
  unfold State.placeFull
  obtain hreq | ⟨hreq, shape, hrsp⟩ := decodeFull_some h
  · rw [if_pos (isOk_of_ok hreq)]
    exact placeRequest_fetch hreq
  · rw [hreq, if_neg Bool.false_ne_true]
    exact placeWindow_fetch hshort hrsp

/-- The instruction of a table word is the one fetched where the word is placed, for every width. -/
theorem withFetchWord_fetch {s : State} {nbits w : Nat} {i : Instr} (hshort : s.par.acceptShort = true)
    (h : decodeTableWord nbits w = some i) : (s.withFetchWord nbits w).fetch = some i := by
  unfold decodeTableWord at h
  unfold State.withFetchWord
  split_ifs at h ⊢
  · exact placeHost_fetch (ok_of_toOption h)
  · exact placeWindow_fetch hshort (ok_of_toOption h)
  · exact placeFull_fetch hshort h

/-- Settles O35: the placed word is fetched in a cycle without reset, and every instruction answers. -/
theorem placedWordRunsNext : Obligations.PlacedWordRunsNext := by
  intro s nbits w i hl hshort _ hdec
  obtain ⟨hpar, hrst⟩ := withFetchWord_par_and_rst s nbits w
  obtain ⟨u, hu, _⟩ := exec_answers i (s.withFetchWord nbits w).beginCycle
  exact ⟨u, hu, step_of_fetch (hpar ▸ hl) hrst (withFetchWord_fetch hshort hdec) hu⟩

/-! ## Acceptance of PING_SYS and of the reserved kind (R82, R84, R101, R102) -/

/-- A command of a defined kind in range, with the session Open, starts its first attempt with its frame (R102, R104). -/
theorem acceptCommand_of_open {s : State} {v : Word} (k : Kind) (c : Channel) (sig : Signal) (tmo : Option Word)
    (shape : Shape) (hv : valueInRange v = true) (ho : s.sessOpen = true) :
    s.acceptCommand k c sig v tmo shape =
      ((s.latch sig shape (s.readTimeout tmo)).setFrame (encodeRequest k c sig (rawValue v))).startAttempt 1 := by
  simp [State.acceptCommand, hv, ho]

/-- The frame of PING_SYS (`40_encoder.md` R108). -/
theorem encodeRequest_pingSys :
    encodeRequest .ping .system .system (rawValue 0) = ⟨0xAA, 0x50, 0x53, 0x53, 0x00, 0x00, 0x50, 0x55⟩ := rfl

/-- Settles O22: PING_SYS is the acceptance of its PING command, whose value 0 is in range. -/
theorem pingSysStartsFirstAttempt : Obligations.PingSysStartsFirstAttempt := by
  intro s tmo shape hst ho
  have haccept : exec (.pingSys tmo shape) s = .next (s.acceptCommand .ping .system .system 0 tmo shape) :=
    congrArg Host.Outcome.next (if_pos hst)
  rw [haccept, acceptCommand_of_open .ping .system .system tmo shape (by decide) ho, encodeRequest_pingSys]
  cases tmo <;> rfl

/-- Settles O25: in IDLE the reserved kind is rejected, with no check before it. -/
theorem reservedKindFinishesInvalid : Obligations.ReservedKindFinishesInvalid := by
  intro s c sig v tmo shape hst
  have hreject : exec (.sendInvalid c sig v tmo shape) s = .next (s.rejectCommand sig tmo shape) :=
    congrArg Host.Outcome.next (if_pos hst)
  rw [hreject]
  cases tmo <;> rfl

end Sys2Proof.Machine
end

section
/-! The encoder's statements (`40_encoder.md`): the request frame and its echo, the range check, acceptance in IDLE, and the
sequencer's transitions with the retry wait. -/

namespace Sys2Proof.Machine

/-! ## The request frame and its echo (R105, R154) -/

/-- Settles O5: the kind, channel and signal bytes are those of the code tables, the others are read off `Encode`. -/
theorem requestFrameBytes : Obligations.RequestFrameBytes := by
  intro k c s v
  exact ⟨rfl, by cases k <;> rfl, by cases c <;> rfl, by cases s <;> rfl, rfl, rfl, rfl, rfl⟩

/-- The bytes of a request frame, as a full frame with markers. -/
theorem encodeRequest_toList (k : Kind) (c : Channel) (s : Signal) (v : Half) :
    (encodeRequest k c s v).toList =
      fullResponse k.byte c.byte s.byte (lowByte v) (highByte v)
        (requestSum k.byte c.byte s.byte (lowByte v) (highByte v)) := rfl

theorem channel_byte_eq_system {c : Channel} : c.byte = 0x53 ↔ c = .system := by cases c <;> decide

theorem signal_byte_eq_system {s : Signal} : s.byte = 0x53 ↔ s = .system := by cases s <;> decide

/-- A command byte is one of the three that the ECHO shape recognises (`42_classifier.md` R149). -/
theorem kind_byte_echo (k : Kind) : k.byte = 0x47 ∨ k.byte = 0x53 ∨ k.byte = 0x50 := by cases k <;> decide

/-- Under ECHO an echoed command byte leaves the decision to the channel and the signal byte (`42_classifier.md` R149). -/
theorem classifyFull_echo {B : Frame} (h : B.b1 = 0x47 ∨ B.b1 = 0x53 ∨ B.b1 = 0x50) :
    classifyFull B .echo = sysOrReading B.b2 B.b3 := by
  have hnak : B.b1 ≠ 0x4E := by obtain h | h | h := h <;> rw [h] <;> decide
  exact (if_neg hnak).trans (if_pos h)

/-- Settles O12: the frame has the markers of a full frame, the echoed command byte is recognised, and the value's bytes
give the value back. -/
theorem echoedRequestRoundTrip : Obligations.EchoedRequestRoundTrip := by
  intro k c sig v s
  refine ⟨?_, ?_, fun hecho => ?_⟩
  · rw [encodeRequest_toList, frameVerdict_fullResponse]
  · have hclass := classifyFull_echo (B := encodeRequest k c sig v) (kind_byte_echo k)
    have hcode : sysOrReading c.byte sig.byte = if c = .system ∧ sig = .system then .sysinfo else .reading := by
      simp only [sysOrReading, channel_byte_eq_system, signal_byte_eq_system]
    exact hclass.trans hcode
  · have hvalue : s.outputs.rspValue = (encodeRequest k c sig v).value := congrArg Frame.value hecho
    exact ⟨congrArg Frame.b2 hecho, congrArg Frame.b3 hecho, hvalue.trans (valueOf_bytes v)⟩

/-! ## The range check (R103) -/

/-- A value passes exactly if it is below 2^16 read as an unsigned number: a negative one is at least 2^31 there. -/
theorem valueInRange_iff (v : Word) : valueInRange v = true ↔ v.toNat < 65536 := by
  have hlt : v.toNat < 2 ^ 32 := v.isLt
  simp only [valueInRange, Bool.and_eq_true, decide_eq_true_eq, BitVec.toInt_eq_toNat_cond]
  split <;> omega

/-- The upper half of a word is its quotient by 2^16. -/
theorem upperHalf_eq_zero (v : Word) : v.extractLsb' 16 16 = 0 ↔ v.toNat < 65536 := by
  rw [← BitVec.toNat_inj, BitVec.extractLsb'_toNat, Nat.shiftRight_eq_div_pow]
  have hlt : v.toNat < 2 ^ 32 := v.isLt
  simp only [BitVec.ofNat_eq_ofNat, BitVec.toNat_ofNat]
  omega

/-- The sign bit is a bit of the upper half. -/
theorem upperHalf_ne_zero_of_sign {v : Word} (h : v.getLsbD 31 = true) : v.extractLsb' 16 16 ≠ 0 := by
  intro hzero
  have hbit : (v.extractLsb' 16 16).getLsbD 15 = v.getLsbD 31 := by simp
  rw [hzero, h] at hbit
  exact absurd hbit (by decide)

/-- Settles O20: passing is being below 2^16, which is an upper half of 0; bit 31 is a bit of that half. -/
theorem rangeCheckBits : Obligations.RangeCheckBits := by
  refine ⟨fun v => ?_, by decide, by decide, by decide, by decide⟩
  have hfails : valueInRange v = false ↔ v.extractLsb' 16 16 ≠ 0 := by
    rw [Ne, upperHalf_eq_zero, ← valueInRange_iff, Bool.not_eq_true]
  rw [hfails]
  exact ⟨.inr, fun h => h.elim upperHalf_ne_zero_of_sign id⟩

/-! ## Acceptance in IDLE (R100 to R102) -/

/-- The host row of a command kind (`30_encoding.md` R84); its PING with System, System and 0 acts as PING_SYS (log 7). -/
def sendRow (k : Kind) (c : Channel) (sig : Signal) (v : Word) (tmo : Option Word) (shape : Shape) : Instr :=
  match k with
  | .get => .sendGet c sig v tmo shape
  | .set => .sendSet c sig v tmo shape
  | .ping => .sendPing c sig v tmo shape

/-- In IDLE the row of a kind is the acceptance of its command. -/
theorem exec_sendRow {s : State} (k : Kind) (c : Channel) (sig : Signal) (v : Word) (tmo : Option Word) (shape : Shape)
    (hst : s.st = .idle) :
    exec (sendRow k c sig v tmo shape) s = .next (s.acceptCommand k c sig v tmo shape) := by
  cases k <;> exact congrArg Host.Outcome.next (if_pos hst)

/-- In IDLE the row PING_SYS is the acceptance of PING of System, System and 0. -/
theorem exec_pingSys {s : State} (tmo : Option Word) (shape : Shape) (hst : s.st = .idle) :
    exec (.pingSys tmo shape) s = .next (s.acceptCommand .ping .system .system 0 tmo shape) :=
  congrArg Host.Outcome.next (if_pos hst)

/-- In IDLE the row of the reserved kind is the rejection of its command. -/
theorem exec_sendInvalid {s : State} (c : Channel) (sig : Signal) (v : Word) (tmo : Option Word) (shape : Shape)
    (hst : s.st = .idle) : exec (.sendInvalid c sig v tmo shape) s = .next (s.rejectCommand sig tmo shape) :=
  congrArg Host.Outcome.next (if_pos hst)

/-- A command of a defined kind in range, with the session Closed, finishes with its frame written (R102). -/
theorem acceptCommand_of_closed {s : State} {v : Word} (k : Kind) (c : Channel) (sig : Signal) (tmo : Option Word)
    (shape : Shape) (hv : valueInRange v = true) (ho : s.sessOpen = false) :
    s.acceptCommand k c sig v tmo shape =
      ((s.latch sig shape (s.readTimeout tmo)).setFrame (encodeRequest k c sig (rawValue v))).finishUnsent .notOpen := by
  simp [State.acceptCommand, hv, ho]

/-- A command of a defined kind out of range finishes before a frame is written (R102). -/
theorem acceptCommand_of_outOfRange {s : State} {v : Word} (k : Kind) (c : Channel) (sig : Signal) (tmo : Option Word)
    (shape : Shape) (hv : valueInRange v = false) :
    s.acceptCommand k c sig v tmo shape = (s.latch sig shape (s.readTimeout tmo)).finishUnsent .valueOutOfRange := by
  simp [State.acceptCommand, hv]

/-- Settles O21: each row is the acceptance of its kind, which starts the first attempt. -/
theorem sendStartsFirstAttempt : Obligations.SendStartsFirstAttempt := by
  intro s c sig v tmo shape hst ho hv started
  have starts (k : Kind) : exec (sendRow k c sig v tmo shape) s = .next (started k) := by
    rw [exec_sendRow k c sig v tmo shape hst, acceptCommand_of_open k c sig tmo shape hv ho]
    cases tmo <;> rfl
  exact ⟨starts .get, starts .set, starts .ping⟩

/-- Settles O23: the acceptance of each kind, and of PING_SYS, whose value 0 is in range, ends at the session check. -/
theorem closedSessionFinishesNotOpen : Obligations.ClosedSessionFinishesNotOpen := by
  intro s c sig v tmo shape hst ho hv finished
  have finishes (k : Kind) (c : Channel) (sig : Signal) {v : Word} (hv : valueInRange v = true) :
      s.acceptCommand k c sig v tmo shape = finished k c sig v := by
    rw [acceptCommand_of_closed k c sig tmo shape hv ho]
    cases tmo <;> rfl
  have rows (k : Kind) : exec (sendRow k c sig v tmo shape) s = .next (finished k c sig v) := by
    rw [exec_sendRow k c sig v tmo shape hst, finishes k c sig hv]
  refine ⟨rows .get, rows .set, rows .ping, ?_⟩
  rw [exec_pingSys tmo shape hst, finishes .ping .system .system (by decide)]

/-- Settles O24: the range check precedes the encoding and the session check. -/
theorem outOfRangeFinishesUnsent : Obligations.OutOfRangeFinishesUnsent := by
  intro s c sig v tmo shape hst hv t
  have rows (k : Kind) : exec (sendRow k c sig v tmo shape) s = .next t := by
    rw [exec_sendRow k c sig v tmo shape hst, acceptCommand_of_outOfRange k c sig tmo shape hv]
    cases tmo <;> rfl
  exact ⟨rows .get, rows .set, rows .ping⟩

/-- Settles O28: every host row is guarded by the IDLE state. -/
theorem hostOperationsIgnoredWhileBusy : Obligations.HostOperationsIgnoredWhileBusy := by
  intro s c sig v w tmo shape hst
  have ignored (t : State) :
      (.next (if s.st = .idle then t else s) : Host.Outcome State Fault Refusal) = .next s :=
    congrArg Host.Outcome.next (if_neg hst)
  exact ⟨ignored _, ignored _, ignored _, ignored _, ignored _, ignored _, ignored _⟩

/-! ## The next sequencer state (`44_sequencer.md` R181)

The state each cycle of the sequencer leads to, then the two kinds of IDLE cycle. -/

/-- TX is left with the eighth byte (`40_encoder.md` R109). -/
theorem txCycle_st {s : State} (b : Byte) (hst : s.st = .tx) :
    (s.txCycle b).st = if s.sampled.txReady = true ∧ s.txIdx = 7 then .settle else .tx := by
  obtain ⟨hready, e⟩ | ⟨hready, h7, e⟩ | ⟨hready, h7, e⟩ := s.txCycle_cases b <;> rw [e]
  · simp [hready, hst]
  · rw [if_pos ⟨hready, h7⟩]
  · rw [if_neg fun h => h7 h.2]
    exact hst

/-- SETTLE is left when the timer is 0 (R183). -/
theorem settleCycle_st {s : State} (hst : s.st = .settle) :
    s.settleCycle.st = if s.tmr = 0 then .wait else .settle := by
  obtain ⟨htmr, e⟩ | ⟨htmr, e⟩ := s.settleCycle_cases <;> rw [e]
  · rw [if_pos htmr]
  · rw [if_neg htmr]
    exact hst

/-- WAIT is left with a complete read or when the timer is 0 (R184). -/
theorem waitCycle_st {s : State} (hst : s.st = .wait) :
    s.waitCycle.st = if s.rxCnt = 8 ∨ s.tmr = 0 then .eval else .wait := by
  obtain ⟨hends, e⟩ | ⟨hcnt, htmr, e⟩ := s.waitCycle_cases <;> rw [e]
  · rw [if_pos hends]
  · rw [if_neg (not_or.mpr ⟨hcnt, htmr⟩)]
    exact hst

/-- The retry condition on the mask bit and the attempts (R186). -/
theorem retries_iff (s : State) (c : ResultCode) :
    s.retries c = true ↔ s.par.retryMask.getLsbD c.code.toNat = true ∧ s.att.toNat < s.par.maxAttempts := by
  rw [State.retries, Bool.and_eq_true, decide_eq_true_eq]

/-- EVAL is always left, into the retry wait or with the result (R186). -/
theorem evalCycle_st (s : State) (c : ResultCode) :
    (s.evalCycle c).st =
      if s.par.retryMask.getLsbD c.code.toNat = true ∧ s.att.toNat < s.par.maxAttempts then .rwait else .done := by
  simp only [← retries_iff]
  obtain ⟨hretry, e⟩ | ⟨hretry, e⟩ := s.evalCycle_cases c <;> simp [e, hretry]

/-- RWAIT is left when the timer is 0 (R187). -/
theorem rwaitCycle_st {s : State} (hst : s.st = .rwait) : s.rwaitCycle.st = if s.tmr = 0 then .tx else .rwait := by
  obtain ⟨htmr, e⟩ | ⟨htmr, e⟩ := s.rwaitCycle_cases <;> rw [e]
  · rw [if_pos htmr, State.startAttempt_st]
  · rw [if_neg htmr]
    exact hst

/-- DONE is left when the host takes the result (R188). -/
theorem doneCycle_st {s : State} (hst : s.st = .done) :
    s.doneCycle.st = if s.sampled.rspReady = true then .idle else .done := by
  obtain ⟨hready, e⟩ | ⟨hready, e⟩ := s.doneCycle_cases <;> simp [e, hready, hst]

/-- A command of a defined kind is sent if it passes the range and the session check, else finished (R102). -/
theorem acceptCommand_st (s : State) (k : Kind) (c : Channel) (sig : Signal) (v : Word) (tmo : Option Word) (shape : Shape) :
    (s.acceptCommand k c sig v tmo shape).st = if valueInRange v = true ∧ s.sessOpen = true then .tx else .done := by
  obtain ⟨hv, e⟩ | ⟨hv, ho, e⟩ | ⟨hv, ho, e⟩ := s.acceptCommand_cases k c sig v tmo shape
  · simp [e, hv]
  · simp [e, ho]
  · simp [e, hv, ho]

/-- A `cmd_kind` code is the reserved one or names a kind (`30_encoding.md` R73, R82). -/
theorem kindCode_cases (code : BitVec 2) : code = 3 ∨ ∃ k : Kind, code = k.code := by
  obtain h | h | h | h : code = 0 ∨ code = 1 ∨ code = 2 ∨ code = 3 := by revert code; decide
  · exact .inr ⟨.get, h⟩
  · exact .inr ⟨.set, h⟩
  · exact .inr ⟨.ping, h⟩
  · exact .inl h

theorem kindCode_ne_reserved (k : Kind) : k.code ≠ 3 := by cases k <;> decide

/-- The command of a kind's code acts as the acceptance of that kind, PING_SYS or not. -/
theorem exec_commandInstr {s : State} (k : Kind) (c : Channel) (sig : Signal) (o : HostOperands) (hst : s.st = .idle) :
    exec (commandInstr k.code c sig o) s = .next (s.acceptCommand k c sig o.value o.tmo? (Shape.ofBit o.shape)) := by
  cases k with
  | get => exact exec_sendRow .get _ _ _ _ _ hst
  | set => exact exec_sendRow .set _ _ _ _ _ hst
  | ping =>
    rw [Kind.code, commandInstr_ping]
    split
    next hsys =>
      obtain ⟨rfl, rfl, hvalue⟩ := hsys
      rw [hvalue, exec_pingSys _ _ hst]
    next => exact exec_sendRow .ping _ _ _ _ _ hst

/-- The command of any kind code leads from IDLE to TX or DONE (R102). -/
theorem exec_command_st {s u : State} {kind : BitVec 2} {c : Channel} {sig : Signal} {o : HostOperands}
    (hst : s.st = .idle) (hu : exec (commandInstr kind c sig o) s = .next u) :
    u.st = if kind ≠ 3 ∧ valueInRange o.value = true ∧ s.sessOpen = true then .tx else .done := by
  obtain rfl | ⟨k, rfl⟩ := kindCode_cases kind
  · obtain rfl := Host.Outcome.next.inj ((exec_sendInvalid c sig o.value o.tmo? (Shape.ofBit o.shape) hst).symm.trans hu)
    simp [State.rejectCommand]
  · obtain rfl := Host.Outcome.next.inj ((exec_commandInstr k c sig o hst).symm.trans hu)
    simp only [acceptCommand_st, kindCode_ne_reserved, ne_eq, not_false_eq_true, true_and]

/-- In IDLE a sampled command is what is fetched, whatever the session requests (R102, `43_session.md` R163). -/
theorem fetch_command {s : State} (hst : s.st = .idle) (hv : s.sampled.cmdValid = true) :
    s.fetch =
      some (commandInstr s.sampled.cmdKind (Channel.ofCode s.sampled.cmdChan) (Signal.ofCode s.sampled.cmdSig)
        s.sampled.operands) := by
  rw [fetch_idle hst, Inputs.hostWord, hv, decodeHost_command]
  rfl

/-- An IDLE cycle with a command (R102). -/
theorem step_command_st {s t : State} (hr : s.sampled.rst = false) (hst : s.st = .idle) (hv : s.sampled.cmdValid = true)
    (h : step s = .next t) :
    t.st =
      if s.sampled.cmdKind ≠ 3 ∧ valueInRange s.sampled.cmdValue = true ∧ s.sessOpen = true then .tx else .done := by
  have hfetch := fetch_command hst hv
  obtain ⟨_, ⟨hr', _⟩ | ⟨_, i, u, hf, hu, rfl⟩ | ⟨_, hf, _⟩⟩ := step_cases h
  · simp [hr] at hr'
  · obtain rfl := Option.some.inj (hfetch.symm.trans hf)
    exact (s.endCycle_st u).trans (exec_command_st (s := s.beginCycle) hst hu)
  · simp [hfetch] at hf

/-- An IDLE cycle without a command may act on the session, and stays in IDLE (`44_sequencer.md` R182). -/
theorem IdleCycle.st_of_no_command {s u : State} (h : IdleCycle s u) (hv : s.sampled.cmdValid = false) : u.st = s.st := by
  cases h with
  | accept hv' => simp [hv] at hv'
  | reject hv' => simp [hv] at hv'
  | opening tmo => obtain ⟨_, e⟩ | ⟨_, _, e⟩ | ⟨_, _, e⟩ := s.openSession_cases tmo <;> rw [e]
  | closing => rfl
  | quiet => rfl

theorem step_no_command_st {s t : State} (hr : s.sampled.rst = false) (hst : s.st = .idle)
    (hv : s.sampled.cmdValid = false) (h : step s = .next t) : t.st = .idle := by
  obtain ⟨hr', _⟩ | ⟨_, _, u, hu, rfl⟩ | ⟨_, hst', _⟩ := step_cases_by_state h
  · simp [hr] at hr'
  · rw [State.endCycle_st, hu.st_of_no_command hv, State.beginCycle_st, hst]
  · exact absurd hst hst'

/-- Outside IDLE the next state is the one the sequencer's cycle leads to. -/
theorem step_busy_st {s t u : State} (hl : s.par.legal = true) (hr : s.sampled.rst = false) (hst : s.st ≠ .idle)
    (hseq : s.beginCycle.sequence = u) (h : step s = .next t) : t.st = u.st := by
  obtain rfl := Host.Outcome.next.inj ((step_of_busy hl hr hst).symm.trans h)
  rw [State.endCycle_st, hseq]

section
variable {s : State}

theorem sequence_tx (h : s.st = .tx) : s.sequence = s.txCycle (s.frm.byte s.txIdx.toNat) := by simp [State.sequence, h]

theorem sequence_settle (h : s.st = .settle) : s.sequence = s.settleCycle := by simp [State.sequence, h]

theorem sequence_wait (h : s.st = .wait) : s.sequence = s.waitCycle := by simp [State.sequence, h]

theorem sequence_eval (h : s.st = .eval) : s.sequence = s.evalCycle s.evaluation := by simp [State.sequence, h]

theorem sequence_rwait (h : s.st = .rwait) : s.sequence = s.rwaitCycle := by simp [State.sequence, h]

theorem sequence_done (h : s.st = .done) : s.sequence = s.doneCycle := by simp [State.sequence, h]

end

/-- Settles O37: in IDLE by whether there is a command, elsewhere by the sequencer's cycle of the state. -/
theorem sequencerTransitions : Obligations.SequencerTransitions := by
  intro s t hl hr h
  have busy {u : State} (hst : s.st ≠ .idle) (hseq : s.beginCycle.sequence = u) : t.st = u.st :=
    step_busy_st hl hr hst hseq h
  cases hst : s.st with
  | idle =>
    cases hv : s.sampled.cmdValid with
    | true => exact (step_command_st hr hst hv h).trans (if_pos rfl).symm
    | false => exact (step_no_command_st hr hst hv h).trans (if_neg Bool.false_ne_true).symm
  | tx => exact (busy (by simp [hst]) (sequence_tx hst)).trans (txCycle_st _ hst)
  | settle => exact (busy (by simp [hst]) (sequence_settle hst)).trans (settleCycle_st hst)
  | wait => exact (busy (by simp [hst]) (sequence_wait hst)).trans (waitCycle_st hst)
  | eval => exact (busy (by simp [hst]) (sequence_eval hst)).trans (evalCycle_st _ _)
  | rwait => exact (busy (by simp [hst]) (sequence_rwait hst)).trans (rwaitCycle_st hst)
  | done => exact (busy (by simp [hst]) (sequence_done hst)).trans (doneCycle_st hst)

/-! ## The retry wait (`44_sequencer.md` R187, R193) -/

/-- In `q` the timer counts down a cycle at a time, and the cycle at 0 ends the wait with `Ends s t`, a relation between
any state of the wait and the one after it. -/
structure CountsDown (q : SeqState) (Ends : State → State → Prop) : Prop where
  last : ∀ {s : State}, s.par.legal = true → s.sampled.rst = false → s.st = q → s.tmr = 0 →
    ∃ t, step s = .next t ∧ Ends s t
  next : ∀ {s : State}, s.par.legal = true → s.sampled.rst = false → s.st = q → s.tmr ≠ 0 →
    ∃ t, step s = .next t ∧ t.st = q ∧ t.tmr = s.tmr - 1 ∧ ∀ u, Ends t u → Ends s u

/-- A wait that counts down lasts its load and one cycle more (R193). -/
theorem CountsDown.lasts {q : SeqState} {Ends : State → State → Prop} (hq : CountsDown q Ends) (n : Nat) :
    ∀ s : State, s.par.legal = true → s.st = q → s.tmr.toNat = n → s.during (n + 1) Inputs.noReset →
      (∀ k, k ≤ n → ∃ u, runSteps k s = .next u ∧ u.st = q) ∧ ∃ t, runSteps (n + 1) s = .next t ∧ Ends s t := by
  induction n with
  | zero =>
    intro s hl hst htmr hin
    obtain ⟨t, ht, hends⟩ := hq.last hl (by simpa [Inputs.noReset] using hin.sampled) hst (by bv_omega)
    refine ⟨fun k hk => ?_, t, (runSteps_succ 0 ht).trans (runSteps_zero t), hends⟩
    obtain rfl := Nat.le_zero.mp hk
    exact ⟨s, runSteps_zero s, hst⟩
  | succ n ih =>
    intro s hl hst htmr hin
    obtain ⟨t, ht, htst, httmr, hback⟩ := hq.next hl (by simpa [Inputs.noReset] using hin.sampled) hst (by bv_omega)
    obtain ⟨hwaits, u, hu, hends⟩ := ih t (step_par ht ▸ hl) htst (by rw [httmr]; bv_omega) (hin.step ht)
    refine ⟨fun k hk => ?_, u, (runSteps_succ _ ht).trans hu, hback u hends⟩
    cases k with
    | zero => exact ⟨s, runSteps_zero s, hst⟩
    | succ k =>
      obtain ⟨w, hw, hwst⟩ := hwaits k (Nat.le_of_succ_le_succ hk)
      exact ⟨w, (runSteps_succ _ ht).trans hw, hwst⟩

/-- What `t` is when the retry wait of `s` has led to the next attempt (R104, `60_exceptions.md` R225). -/
structure State.NextAttempt (s t : State) : Prop where
  st : t.st = .tx
  att : t.att = s.att + 1
  txIdx : t.txIdx = 0
  rxCnt : t.rxCnt = 0
  rxb : t.rxb = Frame.zero
  context : sameContext s t

/-- An RWAIT cycle: nothing is captured, so the step is `rwaitCycle` alone. -/
theorem step_rwait {s : State} (hl : s.par.legal = true) (hr : s.sampled.rst = false) (hst : s.st = .rwait) :
    step s = .next s.beginCycle.rwaitCycle.advance := by
  have hcap : s.captures = false := captures_of_not_receiving (by simp [hst, SeqState.receiving])
  rw [step_of_busy hl hr (by simp [hst]), State.endCycle, State.capture_of_not_captures _ _ hcap,
    sequence_rwait (s := s.beginCycle) hst]

theorem rwait_countsDown : CountsDown .rwait State.NextAttempt where
  last := fun {s} hl hr hst htmr => by
    refine ⟨_, step_rwait hl hr hst, ?_⟩
    obtain ⟨_, e⟩ | ⟨hne, _⟩ := s.beginCycle.rwaitCycle_cases
    · rw [e]
      exact ⟨rfl, rfl, rfl, rfl, rfl, rfl, rfl, rfl, rfl⟩
    · exact absurd htmr hne
  next := fun {s} hl hr hst htmr => by
    refine ⟨_, step_rwait hl hr hst, ?_⟩
    obtain ⟨hzero, _⟩ | ⟨_, e⟩ := s.beginCycle.rwaitCycle_cases
    · exact absurd hzero htmr
    · rw [e]
      exact ⟨hst, rfl, fun u hu => { hu with }⟩

/-- Settles O50: the retry wait counts down, and its last cycle starts the next attempt. -/
theorem retryWaitLastsItsLoad : Obligations.RetryWaitLastsItsLoad := by
  intro s hl hst hin
  obtain ⟨hwaits, t, ht, hnext⟩ := rwait_countsDown.lasts s.tmr.toNat s hl hst rfl hin
  obtain ⟨hfrm, hsig, hshape, htmo⟩ := hnext.context
  exact ⟨hwaits, t, ht, hnext.st, hnext.att, hnext.txIdx, hnext.rxCnt, hnext.rxb, hfrm, hsig, hshape, htmo⟩

end Sys2Proof.Machine
end

section
/-! The decoder's statement (`41_decoder.md`): the verdict on the first `n` bytes of a buffer, by the length and the two
markers. -/

namespace Sys2Proof.Machine

/-! ## The first bytes of a buffer (R122) -/

/-- The wire order read by index is the buffer read by offset. -/
theorem getElem?_toList (f : Frame) {i : Nat} (h : i < 8) : f.toList[i]? = some (f.byte i) := by
  rw [← List.head?_drop, drop_toList f h, List.head?_cons]

theorem length_take_toList (f : Frame) {n : Nat} (h : n ≤ 8) : (f.toList.take n).length = n := by
  rw [List.length_take, f.toList_length, min_eq_left h]

theorem head?_take_toList (f : Frame) {n : Nat} (hpos : n ≠ 0) : (f.toList.take n).head? = some (f.byte 0) := by
  rw [List.head?_take, if_neg hpos]
  rfl

theorem getLast?_take_toList (f : Frame) {n : Nat} (hpos : n ≠ 0) (h : n ≤ 8) :
    (f.toList.take n).getLast? = some (f.byte (n - 1)) := by
  rw [List.getLast?_take, if_neg hpos, getElem?_toList f (by omega), Option.some_or]

/-! ## The verdict (R123) -/

/-- Settles O8: below four bytes the length alone decides; from four on the first `n` bytes have a first and a last byte,
which are the two that `Decode` compares with the markers. -/
theorem decodeVerdicts : Obligations.DecodeVerdicts := by
  intro B n hn
  rw [frameVerdict, length_take_toList B hn]
  by_cases hshort : n < 4
  · rw [if_pos hshort, if_pos hshort]
  · have hpos : n ≠ 0 := by omega
    simp only [head?_take_toList B hpos, getLast?_take_toList B hpos hn, ne_eq, Option.some.injEq]

end Sys2Proof.Machine
end

section
/-! The classifier's statements (`42_classifier.md`): the unknown status, byte 2 of a short frame, what each response form
does in EVAL, and a complete reading from WAIT to the outputs. -/

namespace Sys2Proof.Machine

/-! ## The code of a full frame (R140) -/

theorem classifyFull_nak {B : Frame} (shape : Shape) (h : B.b1 = 0x4E) : classifyFull B shape = .nak := if_pos h

/-- Under OKNAK an `'O'` frame is judged by its checksum, then by the system pair (R145 to R147). -/
theorem classifyFull_ok {B : Frame} (h : B.b1 = 0x4F) :
    classifyFull B .oknak =
      if responseSum B.b2 B.b3 B.b4 B.b5 ≠ B.b6 then .checksumMismatch else sysOrReading B.b2 B.b3 := by
  have hnak : B.b1 ≠ 0x4E := by rw [h]; decide
  exact (if_neg hnak).trans (if_pos h)

theorem classifyFull_oknak_other {B : Frame} (hok : B.b1 ≠ 0x4F) (hnak : B.b1 ≠ 0x4E) :
    classifyFull B .oknak = .unknownStatus := (if_neg hnak).trans (if_neg hok)

theorem classifyFull_echo_other {B : Frame} (hecho : ¬(B.b1 = 0x47 ∨ B.b1 = 0x53 ∨ B.b1 = 0x50)) (hnak : B.b1 ≠ 0x4E) :
    classifyFull B .echo = .unknownStatus := (if_neg hnak).trans (if_neg hecho)

theorem sysOrReading_ne_unknownStatus (b2 b3 : Byte) : sysOrReading b2 b3 ≠ .unknownStatus := by
  unfold sysOrReading
  split_ifs <;> decide

/-- Settles O10: a recognised offset-1 byte has a code of its own, any other byte falls through to the last arm. -/
theorem unknownStatusExactly : Obligations.UnknownStatusExactly := by
  intro B shape
  by_cases hnak : B.b1 = 0x4E
  · rw [classifyFull_nak shape hnak]
    cases shape <;> simp [hnak]
  cases shape with
  | oknak =>
    by_cases hok : B.b1 = 0x4F
    · have hcode : classifyFull B .oknak ≠ .unknownStatus := by
        rw [classifyFull_ok hok]
        split_ifs
        · decide
        · exact sysOrReading_ne_unknownStatus _ _
      simp [hcode, hok]
    · exact iff_of_true (classifyFull_oknak_other hok hnak) ⟨hok, hnak⟩
  | echo =>
    by_cases hecho : B.b1 = 0x47 ∨ B.b1 = 0x53 ∨ B.b1 = 0x50
    · have hcode : classifyFull B .echo ≠ .unknownStatus := by
        rw [classifyFull_echo hecho]
        exact sysOrReading_ne_unknownStatus _ _
      exact iff_of_false hcode fun ⟨hG, hS, hP, _⟩ => hecho.elim hG (·.elim hS hP)
    · obtain ⟨hG, hS, hP⟩ : B.b1 ≠ 0x47 ∧ B.b1 ≠ 0x53 ∧ B.b1 ≠ 0x50 := by simpa only [not_or] using hecho
      exact iff_of_true (classifyFull_echo_other hecho hnak) ⟨hG, hS, hP, hnak⟩

/-! ## Short frames (R144) -/

/-- Four bytes are a short frame by their two markers (`41_decoder.md` R123). -/
theorem frameVerdict_take_four (B : Frame) :
    frameVerdict (B.toList.take 4) = .short ↔ B.b0 = 0xAA ∧ B.b3 = 0x55 := by
  rw [decodeVerdicts B 4 (by decide)]
  simp [Frame.byte, ← not_and_or]

/-- `Evaluate` of a four-byte window (`44_sequencer.md` R185). -/
theorem evaluate_four (a : Bool) (B : Frame) (shape : Shape) :
    evaluate a B 4 shape = if a = true ∧ B.b0 = 0xAA ∧ B.b3 = 0x55 then classifyShort B else .timeout := by
  simp [evaluate, frameVerdict_take_four]

/-- Settles O11: a four-byte window is evaluated by its two markers and its byte 1. -/
theorem shortFrameStatusOnly : Obligations.ShortFrameStatusOnly := by
  refine ⟨fun _ _ => rfl, fun a B b shape => ?_, fun B shape h0 h1 _ h3 => ?_, fun _ => rfl⟩
  · rw [evaluate_four, evaluate_four]
    rfl
  · rw [evaluate_four, if_pos ⟨rfl, h0, h3⟩]
    exact if_pos h1

/-! ## The response forms in EVAL (`44_sequencer.md` R186) -/

/-- Settles O9: the form found in the window is the row of the bytes that `Evaluate` reads. -/
theorem formsAgreeWithEvaluate : Obligations.FormsAgreeWithEvaluate := fun _ _ => exec_of_fetchWindow

/-- A legal mask has no bit for the answered results ACK, NAK, SYSINFO and READING (`00_scope.md` R6). -/
theorem retryMask_answered {p : Params} {n : Nat} (hl : p.legal = true) (hn : n < 4) : p.retryMask.getLsbD n = false := by
  obtain ⟨_, _, _, hmask⟩ := (legal_iff p).mp hl
  have hbit : p.retryMask.getLsbD n = (p.retryMask &&& 0xFC0F).getLsbD n := by
    have hset : (0xFC0F : BitVec 16).getLsbD n = true := by
      revert n
      decide
    rw [BitVec.getLsbD_and, hset, Bool.and_true]
  rw [hbit, hmask]
  exact BitVec.getLsbD_zero

section
variable {s : State} {c : ResultCode}

/-- An answered command is not retried. -/
theorem evalCycle_of_answered (hl : s.par.legal = true) (hc : c.code.toNat < 4) : s.evalCycle c = s.finish c := by
  obtain ⟨hretry, _⟩ | ⟨_, e⟩ := s.evalCycle_cases c
  · obtain ⟨hbit, _⟩ := (retries_iff s c).mp hretry
    simp [retryMask_answered hl hc] at hbit
  · exact e

theorem evaluateAs_of_answered (hl : s.par.legal = true) (hst : s.st = .eval) (hc : c.code.toNat < 4) :
    s.evaluateAs c = s.finish c := (if_pos hst).trans (evalCycle_of_answered hl hc)

theorem oknakResult_of_oknak (h : s.reqShape = .oknak) : s.oknakResult c = c := by rw [State.oknakResult, h]

theorem echoResult_of_echo (h : s.reqShape = .echo) : s.echoResult c = c := by rw [State.echoResult, h]

theorem shortResult_of_accepted (h : s.par.acceptShort = true) : s.shortResult c = c := if_pos h

end

/-- The system pair or not, the command is answered. -/
theorem sysOrReading_answered (b2 b3 : Byte) : (sysOrReading b2 b3).code.toNat < 4 := by
  unfold sysOrReading
  split_ifs <;> decide

/-- Settles O15: under OKNAK each form has its own code, and both codes are answers. -/
theorem okFormsFinish : Obligations.OkFormsFinish := by
  intro s light sig low high hl hst hshape
  have finishes {c : ResultCode} (hc : c.code.toNat < 4) : s.evaluateAs (s.oknakResult c) = s.finish c := by
    rw [oknakResult_of_oknak hshape, evaluateAs_of_answered hl hst hc]
  exact ⟨congrArg _ (finishes (c := .sysinfo) (by decide)), congrArg _ (finishes (c := .reading) (by decide))⟩

/-- Settles O16: by the retry condition on mask bit 4, the number of CHECKSUM_MISMATCH. -/
theorem badChecksumRetriesOrFinishes : Obligations.BadChecksumRetriesOrFinishes := by
  intro s light sig low high sum hst hshape
  have hrow : exec (.rspOkBadsum light sig low high sum) s = .next (s.evalCycle .checksumMismatch) := by
    refine congrArg Host.Outcome.next ((if_pos hst).trans ?_)
    rw [oknakResult_of_oknak hshape]
  have hretries : s.retries .checksumMismatch = true ↔
      s.par.retryMask.getLsbD 4 = true ∧ s.att.toNat < s.par.maxAttempts := retries_iff s .checksumMismatch
  rw [hrow]
  obtain ⟨hretry, e⟩ | ⟨hretry, e⟩ := s.evalCycle_cases .checksumMismatch
  · rw [e, if_pos (hretries.mp hretry)]
    rfl
  · rw [e, if_neg fun h => Bool.eq_false_iff.mp hretry (hretries.mpr h)]
    rfl

/-- Settles O17: the row's code is NAK under either shape, and NAK is an answer. -/
theorem nakFullFinishes : Obligations.NakFullFinishes := fun _ _ _ _ _ _ hl hst =>
  congrArg Host.Outcome.next (evaluateAs_of_answered (c := .nak) hl hst (by decide))

/-- Settles O18: the three rows act alike, with a code that is an answer. -/
theorem echoFormsFinish : Obligations.EchoFormsFinish := by
  intro s light sig low high b6 hl hst hshape t
  have finishes : s.evaluateAs (s.echoResult (sysOrReading light sig)) = t := by
    rw [echoResult_of_echo hshape, evaluateAs_of_answered hl hst (sysOrReading_answered light sig)]
    rfl
  exact ⟨congrArg _ finishes, congrArg _ finishes, congrArg _ finishes⟩

/-- Settles O19: with short frames accepted each row has its own code, and both codes are answers. -/
theorem shortFormsFinish : Obligations.ShortFormsFinish := by
  intro s b2 hl hst hshort
  have finishes {c : ResultCode} (hc : c.code.toNat < 4) : s.evaluateAs (s.shortResult c) = s.finish c := by
    rw [shortResult_of_accepted hshort, evaluateAs_of_answered hl hst hc]
  exact ⟨congrArg _ (finishes (c := .ack) (by decide)), congrArg _ (finishes (c := .nak) (by decide))⟩

/-! ## A complete reading (R147, `44_sequencer.md` R184, R185) -/

/-- Outside IDLE a cycle that captures nothing is the sequencer's alone. -/
theorem step_of_busy_of_not_captures {s : State} (hl : s.par.legal = true) (hr : s.sampled.rst = false)
    (hst : s.st ≠ .idle) (hcap : s.captures = false) : step s = .next s.beginCycle.sequence.advance := by
  rw [step_of_busy hl hr hst, State.endCycle, State.capture_of_not_captures _ _ hcap]

/-- A full window captures nothing (`41_decoder.md` R121). -/
theorem captures_of_full {s : State} (h : s.rxCnt = 8) : s.captures = false := by simp [State.captures, h]

/-- The state after the WAIT cycle that ends the read (R184), when nothing is captured in it. -/
def State.readEnded (s : State) : State := ({ s.beginCycle with st := .eval } : State).advance

/-- A complete read ends WAIT at once. -/
theorem step_wait_of_full {s : State} (hl : s.par.legal = true) (hr : s.sampled.rst = false) (hst : s.st = .wait)
    (hcnt : s.rxCnt = 8) : step s = .next s.readEnded := by
  have hends : s.beginCycle.waitCycle = { s.beginCycle with st := .eval } := if_pos (.inl hcnt)
  rw [step_of_busy_of_not_captures hl hr (by simp [hst]) (captures_of_full hcnt), sequence_wait (s := s.beginCycle) hst,
    hends]
  rfl

/-- An EVAL cycle that answers the command: nothing is captured, and the state is the finished one. -/
theorem step_eval_of_answered {s : State} {c : ResultCode} (hl : s.par.legal = true) (hr : s.sampled.rst = false)
    (hst : s.st = .eval) (hcode : s.evaluation = c) (hc : c.code.toNat < 4) :
    step s = .next (s.beginCycle.finish c).advance := by
  have hcap : s.captures = false := captures_of_not_receiving (by simp [hst, SeqState.receiving])
  have hbegin : s.beginCycle.evaluation = c := hcode
  rw [step_of_busy_of_not_captures hl hr (by simp [hst]) hcap, sequence_eval (s := s.beginCycle) hst, hbegin,
    evalCycle_of_answered (s := s.beginCycle) hl hc]

/-- `Evaluate` of eight bytes with good markers. -/
theorem evaluate_full {B : Frame} (a : Bool) (shape : Shape) (h : frameVerdict B.toList = .full) :
    evaluate a B 8 shape = classifyFull B shape := by simp [evaluate, h]

/-- A window with a complete OKNAK reading, its checksum good, is evaluated as READING (R147). -/
theorem evaluation_reading {s : State} {light sig low high : Byte} (hcnt : s.rxCnt = 8) (hshape : s.reqShape = .oknak)
    (hrxb : s.rxb = ⟨0xAA, 0x4F, light, sig, low, high, responseSum light sig low high, 0x55⟩)
    (hsys : ¬(light = 0x53 ∧ sig = 0x53)) : s.evaluation = .reading := by
  have hfull : frameVerdict s.rxb.toList = .full := by
    rw [hrxb]
    exact frameVerdict_fullResponse ..
  have heval : s.evaluation = classifyFull s.rxb .oknak := by
    rw [State.evaluation, hcnt, hshape]
    exact evaluate_full _ _ hfull
  rw [heval, hrxb, classifyFull_ok rfl, if_neg (not_not.mpr rfl)]
  exact if_neg hsys

/-- Settles O47: the first step ends WAIT, the second evaluates the window, which is kept and read on the outputs. -/
theorem completeReadingIsReported : Obligations.CompleteReadingIsReported := by
  intro s light sig low high hl hin hst hcnt hshape hrxb hsys
  have hwait : step s = .next s.readEnded :=
    step_wait_of_full hl (by simpa [Inputs.noReset] using hin.sampled) hst hcnt
  have hcode : s.readEnded.evaluation = .reading := evaluation_reading (s := s.readEnded) hcnt hshape hrxb hsys
  have heval : step s.readEnded = .next (s.readEnded.beginCycle.finish .reading).advance :=
    step_eval_of_answered hl (by simpa [Inputs.noReset] using (hin.step hwait).sampled) rfl hcode (by decide)
  have hkept : (s.readEnded.beginCycle.finish .reading).advance.rxb = s.rxb := rfl
  refine ⟨_, (runSteps_succ 1 hwait).trans ((runSteps_succ 0 heval).trans (runSteps_zero _)), rfl, rfl, ?_, ?_, ?_, rfl, rfl⟩
  · exact congrArg Frame.b2 (hkept.trans hrxb)
  · exact congrArg Frame.b3 (hkept.trans hrxb)
  · exact (congrArg Frame.value (hkept.trans hrxb)).trans (valueOf_eq_append low high)

end Sys2Proof.Machine
end

section
/-! The session statements (`43_session.md`): what OPEN and CLOSE do in their cycle, and who writes the session registers
`sess_open`, `sess_tmo` and `open_fail`. -/

namespace Sys2Proof.Machine

/-! ## OPEN and CLOSE (R161, R162) -/

/-- In IDLE the row OPEN acts on the session. -/
theorem exec_openSession {s : State} (tmo : Word) (hst : s.st = .idle) :
    exec (.openSession tmo) s = .next (s.openSession tmo) := congrArg Host.Outcome.next (if_pos hst)

/-- In IDLE the row CLOSE acts on the session. -/
theorem exec_closeSession {s : State} (hst : s.st = .idle) : exec .closeSession s = .next s.closeSession :=
  congrArg Host.Outcome.next (if_pos hst)

/-- Settles O26: in IDLE the row is `State.openSession`, which is the three outcomes in their order. -/
theorem openActs : Obligations.OpenActs := fun _ tmo hst => exec_openSession tmo hst

/-- Settles O27: in IDLE the row is `State.closeSession`. -/
theorem closeActs : Obligations.CloseActs := fun _ hst => exec_closeSession hst

/-! ## The session registers

A step without reset leaves in them what the spec's `Session` writes (`State.sessionWrites`): the rows of commands and the
sequencer keep them, and the rows OPEN and CLOSE are fetched where `Session` acts. -/

/-- Two states hold the same session registers. -/
def sameSession (s t : State) : Prop := t.sessOpen = s.sessOpen ∧ t.sessTmo = s.sessTmo ∧ t.openFail = s.openFail

theorem sameSession_refl (s : State) : sameSession s s := ⟨rfl, rfl, rfl⟩

theorem sameSession.trans {r s t : State} (h : sameSession r s) (h' : sameSession s t) : sameSession r t := by
  obtain ⟨hopen, htmo, hfail⟩ := h
  obtain ⟨hopen', htmo', hfail'⟩ := h'
  exact ⟨hopen'.trans hopen, htmo'.trans htmo, hfail'.trans hfail⟩

/-- The cycle's end captures into the receive buffer only. -/
theorem endCycle_sameSession {r u : State} (s : State) (h : sameSession r u) : sameSession r (s.endCycle u) := by
  simpa [sameSession] using h

/-- The sequencer's own cycles keep the session (R163). -/
theorem sequence_sameSession (s : State) : sameSession s s.sequence := by
  unfold State.sequence
  split
  · exact sameSession_refl s
  · obtain ⟨_, e⟩ | ⟨_, _, e⟩ | ⟨_, _, e⟩ := s.txCycle_cases (s.frm.byte s.txIdx.toNat) <;> rw [e] <;> exact ⟨rfl, rfl, rfl⟩
  · obtain ⟨_, e⟩ | ⟨_, e⟩ := s.settleCycle_cases <;> rw [e] <;> exact ⟨rfl, rfl, rfl⟩
  · obtain ⟨_, e⟩ | ⟨_, _, e⟩ := s.waitCycle_cases <;> rw [e] <;> exact ⟨rfl, rfl, rfl⟩
  · obtain ⟨_, e⟩ | ⟨_, e⟩ := s.evalCycle_cases s.evaluation <;> rw [e] <;> exact ⟨rfl, rfl, rfl⟩
  · obtain ⟨_, e⟩ | ⟨_, e⟩ := s.rwaitCycle_cases <;> rw [e] <;> exact ⟨rfl, rfl, rfl⟩
  · obtain ⟨_, e⟩ | ⟨_, e⟩ := s.doneCycle_cases <;> rw [e] <;> exact ⟨rfl, rfl, rfl⟩

/-- The row of a command keeps the session, whatever its kind and the outcome of its checks (R163). -/
theorem exec_command_sameSession {s u : State} {kind : BitVec 2} {c : Channel} {sig : Signal} {o : HostOperands}
    (hst : s.st = .idle) (hu : exec (commandInstr kind c sig o) s = .next u) : sameSession s u := by
  obtain rfl | ⟨k, rfl⟩ := kindCode_cases kind
  · obtain rfl := Host.Outcome.next.inj ((exec_sendInvalid c sig o.value o.tmo? (Shape.ofBit o.shape) hst).symm.trans hu)
    exact ⟨rfl, rfl, rfl⟩
  · obtain rfl := Host.Outcome.next.inj ((exec_commandInstr k c sig o hst).symm.trans hu)
    obtain ⟨_, e⟩ | ⟨_, _, e⟩ | ⟨_, _, e⟩ := s.acceptCommand_cases k c sig o.value o.tmo? (Shape.ofBit o.shape) <;>
      rw [e] <;> exact ⟨rfl, rfl, rfl⟩

/-- An IDLE cycle without a command fetches what the session lines ask for, CLOSE first (R163). -/
theorem fetch_session {s : State} (hst : s.st = .idle) (hv : s.sampled.cmdValid = false) :
    s.fetch =
      if s.sampled.closeReq then some .closeSession
      else if s.sampled.openReq then some (.openSession s.sampled.openTmo) else none := by
  rw [fetch_idle hst, Inputs.hostWord, hv, decodeHost_session, apply_ite Except.toOption, apply_ite Except.toOption]
  rfl

/-- Where the session may not act, or nothing is asked of it, `Session` clears `open_fail` and writes nothing else (R163,
R165). -/
theorem sessionWrites_of_no_request {s : State}
    (h : s.st ≠ .idle ∨ s.sampled.cmdValid = true ∨ (s.sampled.closeReq = false ∧ s.sampled.openReq = false)) :
    sameSession (s.sessionWrites s.sampled s) s.beginCycle := by
  obtain h | h | h := h <;> simp [sameSession, State.sessionWrites, State.openFailNext, h]

/-- Where the session acts and is asked to close, `Session` is the operation CLOSE (R162). -/
theorem sessionWrites_of_close {s : State} (hst : s.st = .idle) (hv : s.sampled.cmdValid = false)
    (hclose : s.sampled.closeReq = true) : sameSession (s.sessionWrites s.sampled s) s.beginCycle.closeSession := by
  simp [sameSession, State.sessionWrites, State.openFailNext, hst, hv, hclose]

/-- Where the session acts and is only asked to open, `Session` is the operation OPEN (R161, R164). -/
theorem sessionWrites_of_open {s : State} (hst : s.st = .idle) (hv : s.sampled.cmdValid = false)
    (hclose : s.sampled.closeReq = false) (hopen : s.sampled.openReq = true) :
    sameSession (s.sessionWrites s.sampled s) (s.beginCycle.openSession s.sampled.openTmo) := by
  have hsampled : s.beginCycle.sampled = s.sampled := rfl
  obtain ⟨ho, e⟩ | ⟨ho, hp, e⟩ | ⟨ho, hp, e⟩ := s.beginCycle.openSession_cases s.sampled.openTmo <;> rw [e] <;>
    simp_all [sameSession, State.sessionWrites, State.openFailNext]

/-- A step without reset that fetches `i` runs it. -/
theorem step_fetched {s t : State} {i : Instr} (hr : s.sampled.rst = false) (hf : s.fetch = some i)
    (h : step s = .next t) : ∃ u, exec i s.beginCycle = .next u ∧ t = s.endCycle u := by
  obtain ⟨_, ⟨hr', _⟩ | ⟨_, j, u, hf', hu, ht⟩ | ⟨_, hf', _⟩⟩ := step_cases h
  · simp [hr] at hr'
  · obtain rfl := Option.some.inj (hf.symm.trans hf')
    exact ⟨u, hu, ht⟩
  · simp [hf] at hf'

/-- A step without reset that fetches nothing, and one outside IDLE, clear `open_fail` and keep the session. -/
theorem step_of_sequence_sameSession {s t : State} (hr : s.sampled.rst = false) (hq : s.fetch = none ∨ s.st ≠ .idle)
    (h : step s = .next t) : sameSession s.beginCycle t := by
  have hsequence := endCycle_sameSession s (sequence_sameSession s.beginCycle)
  obtain ⟨hl, _⟩ := step_cases h
  have hstep : step s = .next (s.endCycle s.beginCycle.sequence) := hq.elim (step_of_no_fetch hl hr) (step_of_busy hl hr)
  exact Host.Outcome.next.inj (hstep.symm.trans h) ▸ hsequence

/-- An IDLE step with a command clears `open_fail` and keeps the session, whatever the session lines ask for (R163). -/
theorem step_command_sameSession {s t : State} (hr : s.sampled.rst = false) (hst : s.st = .idle)
    (hv : s.sampled.cmdValid = true) (h : step s = .next t) : sameSession s.beginCycle t := by
  obtain ⟨u, hu, rfl⟩ := step_fetched hr (fetch_command hst hv) h
  exact endCycle_sameSession s (exec_command_sameSession (s := s.beginCycle) hst hu)

/-- A step without reset leaves the session registers as the spec's `Session` writes them. -/
theorem step_sameSession {s t : State} (hr : s.sampled.rst = false) (h : step s = .next t) :
    sameSession (s.sessionWrites s.sampled s) t := by
  by_cases hst : s.st = .idle
  · cases hv : s.sampled.cmdValid with
    | true => exact (sessionWrites_of_no_request (.inr (.inl hv))).trans (step_command_sameSession hr hst hv h)
    | false =>
      have hf := fetch_session hst hv
      cases hclose : s.sampled.closeReq with
      | true =>
        obtain ⟨u, hu, rfl⟩ := step_fetched hr (hf.trans (if_pos hclose)) h
        obtain rfl := Host.Outcome.next.inj ((exec_closeSession (s := s.beginCycle) hst).symm.trans hu)
        exact endCycle_sameSession s (sessionWrites_of_close hst hv hclose)
      | false =>
        cases hopen : s.sampled.openReq with
        | true =>
          obtain ⟨u, hu, rfl⟩ := step_fetched hr (i := .openSession s.sampled.openTmo) (by simp [hf, hclose, hopen]) h
          obtain rfl := Host.Outcome.next.inj ((exec_openSession (s := s.beginCycle) _ hst).symm.trans hu)
          exact endCycle_sameSession s (sessionWrites_of_open hst hv hclose hopen)
        | false =>
          have hnone : s.fetch = none := by simp [hf, hclose, hopen]
          exact (sessionWrites_of_no_request (.inr (.inr ⟨hclose, hopen⟩))).trans
            (step_of_sequence_sameSession hr (.inl hnone) h)
  · exact (sessionWrites_of_no_request (.inl hst)).trans (step_of_sequence_sameSession hr (.inr hst) h)

/-! ## Who writes them (R165, R166, R167) -/

/-- Outside reset a step closes the session, opens it with the given timeout, or keeps `sess_open` and `sess_tmo` (R161,
R162, R163). -/
theorem step_session_cases {s t : State} (hr : s.sampled.rst = false) (h : step s = .next t) :
    (s.st = .idle ∧ s.sampled.cmdValid = false ∧ s.sampled.closeReq = true ∧
        t.sessOpen = false ∧ t.sessTmo = s.sessTmo) ∨
      (s.st = .idle ∧ s.sampled.cmdValid = false ∧ s.sampled.closeReq = false ∧ s.sampled.openReq = true ∧
        s.sessOpen = false ∧ s.sampled.phyAvail = true ∧ t.sessOpen = true ∧ t.sessTmo = s.sampled.openTmo) ∨
      (t.sessOpen = s.sessOpen ∧ t.sessTmo = s.sessTmo) := by
  obtain ⟨hopen, htmo, _⟩ := step_sameSession hr h
  rw [hopen, htmo]
  by_cases hbars : s.st ≠ .idle ∨ s.sampled.cmdValid = true
  · obtain ⟨hkept, hkeptTmo, _⟩ := sessionWrites_of_no_request (hbars.imp_right .inl)
    exact .inr (.inr ⟨hkept.symm, hkeptTmo.symm⟩)
  · obtain ⟨hst, hv⟩ : s.st = .idle ∧ s.sampled.cmdValid = false := by simpa using hbars
    cases hclose : s.sampled.closeReq with
    | true => simp [State.sessionWrites, hst, hv, hclose]
    | false =>
      by_cases hopens : s.sampled.openReq = true ∧ s.sessOpen = false ∧ s.sampled.phyAvail = true
      · obtain ⟨hreq, hclosed, hphy⟩ := hopens
        simp [State.sessionWrites, hst, hv, hclose, hreq, hclosed, hphy]
      · refine .inr (.inr ?_)
        simp_all [State.sessionWrites]

/-- Settles O41: `Session` writes `open_fail` as the formula of R165. -/
theorem openFailPulse : Obligations.OpenFailPulse := by
  intro s t hr h
  obtain ⟨_, _, hfail⟩ := step_sameSession hr h
  rw [hfail]
  simp [State.sessionWrites, State.openFailNext, and_assoc]

/-- Settles O42: a step that closes or keeps the session keeps the timeout and opens nothing. -/
theorem onlyOpenWritesSessionTimeout : Obligations.OnlyOpenWritesSessionTimeout := by
  intro s t hr h hwritten
  obtain ⟨_, _, _, hopen, htmo⟩ | hopened | ⟨hopen, htmo⟩ := step_session_cases hr h
  · simp [hopen, htmo] at hwritten
  · exact hopened
  · simp [hopen, htmo] at hwritten

/-- Settles O43: a step that opens or keeps the session leaves an Open session Open. -/
theorem onlyCloseEndsTheSession : Obligations.OnlyCloseEndsTheSession := by
  intro s t hr h hopen hclosed
  obtain ⟨hst, hv, hclose, _⟩ | ⟨_, _, _, _, hwasClosed, _⟩ | ⟨hkept, _⟩ := step_session_cases hr h
  · exact ⟨hst, hv, hclose⟩
  · simp [hopen] at hwasClosed
  · simp [hkept, hopen] at hclosed

end Sys2Proof.Machine
end

section
/-! The sequencer's statements (`44_sequencer.md`): what `Evaluate` answers, the step as the spec's own cycle, and what
is offered in DONE. -/

namespace Sys2Proof.Machine

/-! ## What `Evaluate` answers (R185) -/

/-- Settles O13: `Evaluate` answers codes of a sent attempt, which the three found before transmission are not. -/
theorem evaluateRange : Obligations.EvaluateRange := by
  intro a B n shape
  obtain ⟨hsent, hlong⟩ := evaluate_sent a B n shape
  have sent {c : ResultCode} (hc : c.unsent = true) : evaluate a B n shape ≠ c := by
    rintro rfl
    simp [hsent] at hc
  exact ⟨hlong, sent rfl, sent rfl, sent rfl⟩

theorem classifyShort_ne_timeout (B : Frame) : classifyShort B ≠ .timeout := by
  unfold classifyShort
  split_ifs <;> decide

theorem sysOrReading_ne_timeout (b2 b3 : Byte) : sysOrReading b2 b3 ≠ .timeout := by
  unfold sysOrReading
  split_ifs <;> decide

theorem classifyFull_ne_timeout (B : Frame) (shape : Shape) : classifyFull B shape ≠ .timeout := by
  by_cases hnak : B.b1 = 0x4E
  · rw [classifyFull_nak shape hnak]
    decide
  cases shape with
  | oknak =>
    by_cases hok : B.b1 = 0x4F
    · rw [classifyFull_ok hok]
      split_ifs
      · decide
      · exact sysOrReading_ne_timeout _ _
    · rw [classifyFull_oknak_other hok hnak]
      decide
  | echo =>
    by_cases hecho : B.b1 = 0x47 ∨ B.b1 = 0x53 ∨ B.b1 = 0x50
    · rw [classifyFull_echo hecho]
      exact sysOrReading_ne_timeout _ _
    · rw [classifyFull_echo_other hecho hnak]
      decide

/-- `Evaluate` of eight bytes with a marker missing. -/
theorem evaluate_badMarkers {B : Frame} (a : Bool) (shape : Shape) (h : frameVerdict B.toList = .badMarkers) :
    evaluate a B 8 shape = .badMarkers := by simp [evaluate, h]

/-- Eight bytes are classified or have bad markers, so the read did not time out (`60_exceptions.md` R223). -/
theorem evaluate_eight_ne_timeout (a : Bool) (B : Frame) (shape : Shape) : evaluate a B 8 shape ≠ .timeout := by
  obtain hfull | hbad := frameVerdict_toList B
  · rw [evaluate_full a shape hfull]
    exact classifyFull_ne_timeout B shape
  · rw [evaluate_badMarkers a shape hbad]
    decide

/-- A window that is neither of eight nor of four bytes is not looked at. -/
theorem evaluate_partial {n : Nat} (a : Bool) (B : Frame) (shape : Shape) (h8 : n ≠ 8) (h4 : n ≠ 4) :
    evaluate a B n shape = .timeout := by simp [evaluate, h8, h4]

/-- Settles O14: by the three lengths that `Evaluate` tells apart: eight, four, and any other. -/
theorem partialWindowTimesOut : Obligations.PartialWindowTimesOut := by
  intro a B n shape _
  by_cases h8 : n = 8
  · subst h8
    exact iff_of_false (evaluate_eight_ne_timeout a B shape) fun ⟨hne, _⟩ => hne rfl
  by_cases h4 : n = 4
  · subst h4
    rw [evaluate_four]
    split_ifs with haccepted
    · exact iff_of_false (classifyShort_ne_timeout B) fun ⟨_, hnot⟩ => hnot ⟨rfl, haccepted⟩
    · exact iff_of_true rfl ⟨h8, fun ⟨_, h⟩ => haccepted h⟩
  · exact iff_of_true (evaluate_partial a B shape h8 h4) ⟨h8, fun ⟨h, _⟩ => h4 h⟩

/-! ## The instruction of a cycle (R180, log 6) -/

/-- Settles O32: the source of each state is the one `fetch` decodes there. -/
theorem stepRunsDecodedInstruction : Obligations.StepRunsDecodedInstruction := by
  intro s u i hl hr _ hsource hu
  have hfetch : s.fetch = some i := by
    obtain ⟨hst, hdec⟩ | ⟨hst, hdec⟩ | ⟨hst, hcnt, hdec⟩ := hsource
    · exact (fetch_idle hst).trans (congrArg Except.toOption hdec)
    · exact (fetch_tx hst).trans (congrArg Except.toOption hdec)
    · exact (fetch_eval hst).trans ((if_pos hcnt).trans (congrArg Except.toOption hdec))
  exact step_of_fetch hl hr hfetch hu

/-! ## The step is the spec's cycle (R180)

`Session` and `Transition` write disjoint registers. What a step leaves in the session's is `step_sameSession`; here it
is shown that it leaves in the others what `Transition` writes. -/

/-- Two states differ at most in the session registers. -/
def sameOutsideSession (s t : State) : Prop :=
  t = { s with sessOpen := t.sessOpen, sessTmo := t.sessTmo, openFail := t.openFail }

theorem beginCycle_sameOutsideSession (s : State) : sameOutsideSession s s.beginCycle := rfl

/-- A state with the session registers that `Session` writes, and the others of `r`. -/
theorem eq_sessionWrites {s r u : State} (hsession : sameSession (s.sessionWrites s.sampled s) u)
    (hrest : sameOutsideSession r u) : u = s.sessionWrites s.sampled r := by
  obtain ⟨hopen, htmo, hfail⟩ := hsession
  rw [sameOutsideSession, hopen, htmo, hfail] at hrest
  exact hrest

/-- Clearing `open_fail` before the sequencer's cycle or after it is the same. -/
theorem sequence_beginCycle (s : State) : s.beginCycle.sequence = s.sequence.beginCycle := by
  unfold State.sequence
  rw [State.beginCycle_st]
  cases s.st with
  | idle => rfl
  | tx => simp only [State.txCycle, apply_ite State.beginCycle]; rfl
  | settle => simp only [State.settleCycle, apply_ite State.beginCycle]; rfl
  | wait => simp only [State.waitCycle, apply_ite State.beginCycle]; rfl
  | eval => simp only [State.evalCycle, apply_ite State.beginCycle]; rfl
  | rwait => simp only [State.rwaitCycle, apply_ite State.beginCycle]; rfl
  | done => simp only [State.doneCycle, apply_ite State.beginCycle]; rfl

theorem acceptCommand_beginCycle (s : State) (k : Kind) (c : Channel) (sig : Signal) (v : Word) (tmo : Option Word)
    (shape : Shape) :
    s.beginCycle.acceptCommand k c sig v tmo shape = (s.acceptCommand k c sig v tmo shape).beginCycle := by
  simp only [State.acceptCommand, apply_ite State.beginCycle]
  rfl

theorem transition_of_busy {s : State} (i : Inputs) (h : s.st ≠ .idle) : s.transition i = s.sequence := by
  unfold State.transition State.sequence
  cases hst : s.st with
  | idle => exact absurd hst h
  | _ => rfl

theorem transition_of_command {s : State} {i : Inputs} (hst : s.st = .idle) (hv : i.cmdValid = true) :
    s.transition i = s.accept i := by simp [State.transition, hst, hv]

theorem transition_of_no_command {s : State} {i : Inputs} (hst : s.st = .idle) (hv : i.cmdValid = false) :
    s.transition i = s := by simp [State.transition, hst, hv]

/-- The indexed tables of R73 give the frame of the kind, channel and signal that the codes name (R105). -/
theorem encodeCodes_eq (k : Kind) (c s : BitVec 2) (v : Word) :
    encodeCodes k.code c s (v.extractLsb' 0 16) =
      encodeRequest k (Channel.ofCode c) (Signal.ofCode s) (rawValue v) := by
  have hkind : ([0x47, 0x53, 0x50] : List Byte).getD k.code.toNat 0 = k.byte := by cases k <;> rfl
  have hchan : ([0x53, 0x31, 0x32, 0x33] : List Byte).getD c.toNat 0 = (Channel.ofCode c).byte := by revert c; decide
  have hsig : ([0x50, 0x43, 0x54, 0x53] : List Byte).getD s.toNat 0 = (Signal.ofCode s).byte := by revert s; decide
  have hvalue : v.extractLsb' 0 16 = rawValue v := BitVec.setWidth_eq_extractLsb' (by decide) |>.symm
  simp only [encodeCodes, hkind, hchan, hsig, hvalue]
  rfl

/-- The timeout of a command on the raw inputs is the operand of its row (`43_session.md` R166). -/
theorem readTimeout_operands (s : State) (i : Inputs) :
    s.readTimeout i.operands.tmo? = if i.cmdTmoOvr then i.cmdTmo else s.sessTmo := by
  rw [State.readTimeout, HostOperands.tmo?, apply_ite (Option.getD · s.sessTmo)]
  rfl

theorem valueInRange_eq_false_iff (v : Word) : valueInRange v = false ↔ v.toInt < 0 ∨ 65535 < v.toInt := by
  rw [← Bool.not_eq_true, valueInRange, Bool.and_eq_true, decide_eq_true_eq, decide_eq_true_eq]
  omega

/-- Acceptance of a code that names a kind is the acceptance of that kind (R101, R102). -/
theorem accept_of_kind (s : State) {i : Inputs} {k : Kind} (hk : i.cmdKind = k.code) :
    s.accept i =
      s.acceptCommand k (Channel.ofCode i.cmdChan) (Signal.ofCode i.cmdSig) i.cmdValue i.operands.tmo?
        (Shape.ofBit i.cfgShape) := by
  have hne : i.cmdKind ≠ 3 := hk ▸ kindCode_ne_reserved k
  unfold State.accept
  rw [if_neg hne, hk, encodeCodes_eq, ← readTimeout_operands]
  simp only [← valueInRange_eq_false_iff]
  obtain ⟨hv, e⟩ | ⟨hv, ho, e⟩ | ⟨hv, ho, e⟩ := s.acceptCommand_cases k (Channel.ofCode i.cmdChan)
    (Signal.ofCode i.cmdSig) i.cmdValue i.operands.tmo? (Shape.ofBit i.cfgShape)
  · rw [e, if_pos hv]; rfl
  · rw [e, if_neg (by simp [hv]), if_pos ho]; rfl
  · rw [e, if_neg (by simp [hv]), if_neg (by simp [ho])]; rfl

/-- Acceptance of the reserved code is the rejection (R82, R102). -/
theorem accept_of_reserved (s : State) {i : Inputs} (hk : i.cmdKind = 3) :
    s.accept i = s.rejectCommand (Signal.ofCode i.cmdSig) i.operands.tmo? (Shape.ofBit i.cfgShape) := by
  unfold State.accept
  rw [if_pos hk, ← readTimeout_operands]
  rfl

/-- The row of the sampled command does what acceptance on the raw inputs does. -/
theorem exec_command_accept {s : State} {i : Inputs} (hst : s.st = .idle) :
    exec (commandInstr i.cmdKind (Channel.ofCode i.cmdChan) (Signal.ofCode i.cmdSig) i.operands) s.beginCycle =
      .next (s.accept i).beginCycle := by
  obtain hk | ⟨k, hk⟩ := kindCode_cases i.cmdKind
  · rw [accept_of_reserved s hk, hk]
    exact exec_sendInvalid (s := s.beginCycle) _ _ i.cmdValue _ _ hst
  · rw [accept_of_kind s hk, hk, exec_commandInstr (s := s.beginCycle) _ _ _ _ hst, ← acceptCommand_beginCycle]
    rfl

/-- The rows OPEN and CLOSE, and an IDLE cycle without a row, write the session registers only (R162, R182). -/
theorem idleCycle_sameOutsideSession {s u : State} (h : IdleCycle s u) (hv : s.sampled.cmdValid = false) :
    sameOutsideSession s u := by
  cases h with
  | accept hv' => simp [hv] at hv'
  | reject hv' => simp [hv] at hv'
  | opening tmo => obtain ⟨_, e⟩ | ⟨_, _, e⟩ | ⟨_, _, e⟩ := s.openSession_cases tmo <;> rw [e] <;> rfl
  | closing => rfl
  | quiet => rfl

/-- Before the cycle's end, a step without reset has written what `Transition` writes, the session registers apart. -/
theorem step_transition {s t : State} (hr : s.sampled.rst = false) (h : step s = .next t) :
    ∃ u, t = s.endCycle u ∧ sameOutsideSession (s.transition s.sampled) u := by
  obtain ⟨hr', _⟩ | ⟨_, hst, u, hu, ht⟩ | ⟨_, hst, ht⟩ := step_cases_by_state h
  · simp [hr] at hr'
  · cases hv : s.sampled.cmdValid with
    | true =>
      obtain ⟨w, hw, ht⟩ := step_fetched hr (fetch_command hst hv) h
      obtain rfl := Host.Outcome.next.inj ((exec_command_accept hst).symm.trans hw)
      exact ⟨_, ht, transition_of_command hst hv ▸ beginCycle_sameOutsideSession _⟩
    | false =>
      refine ⟨u, ht, ?_⟩
      rw [transition_of_no_command hst hv]
      exact idleCycle_sameOutsideSession (s := s.beginCycle) hu hv
  · refine ⟨_, ht, ?_⟩
    rw [transition_of_busy s.sampled hst, sequence_beginCycle]
    exact beginCycle_sameOutsideSession _

/-- Settles O33: `Transition` and `Session` determine the state before the cycle's end. -/
theorem stepIsTheSpecCycle : Obligations.StepIsTheSpecCycle := by
  intro s hl
  unfold State.clockCycle
  cases hr : s.sampled.rst with
  | true => exact step_of_reset hl hr
  | false =>
    obtain ⟨t, h⟩ := step_answers hl
    obtain ⟨u, rfl, hrest⟩ := step_transition hr h
    have hsession : sameSession (s.sessionWrites s.sampled s) u := by
      simpa [sameSession] using step_sameSession hr h
    rw [h, eq_sessionWrites hsession hrest]
    rfl

/-! ## What is offered (R186, R190, R226) -/

/-- An IDLE cycle that leads to DONE has failed a command before transmission (R102). -/
theorem IdleCycle.done_cases {s u : State} (h : IdleCycle s u) (hst : s.st = .idle) (hu : u.st = .done) :
    u.att = 0 ∧ (u.resCode = .invalidCommand ∨ u.resCode = .valueOutOfRange ∨ u.resCode = .notOpen) := by
  cases h with
  | accept _ k c sig v tmo shape =>
    obtain ⟨_, e⟩ | ⟨_, _, e⟩ | ⟨_, _, e⟩ := s.acceptCommand_cases k c sig v tmo shape <;> rw [e] at hu ⊢
    · exact ⟨rfl, .inr (.inl rfl)⟩
    · exact ⟨rfl, .inr (.inr rfl)⟩
    · simp at hu
  | reject => exact ⟨rfl, .inl rfl⟩
  | opening tmo =>
    obtain ⟨_, e⟩ | ⟨_, _, e⟩ | ⟨_, _, e⟩ := s.openSession_cases tmo <;> rw [e] at hu <;> simp [hst] at hu
  | closing => simp [State.closeSession, hst] at hu
  | quiet => simp [hst] at hu

/-- An evaluation that finishes a command keeps the attempts, and its code is not one that would be retried. -/
theorem evalCycle_done {s : State} {c : ResultCode} (h : (s.evalCycle c).st = .done) :
    s.evalCycle c = s.finish c ∧ s.retries c = false := by
  obtain ⟨_, e⟩ | ⟨hfinal, e⟩ := s.evalCycle_cases c
  · simp [e] at h
  · exact ⟨e, hfinal⟩

/-- Outside IDLE and DONE, the sequencer's cycle reaches DONE from EVAL only (R190). -/
theorem eval_of_sequence_done {s : State} (hidle : s.st ≠ .idle) (hdone : s.st ≠ .done) (h : s.sequence.st = .done) :
    s.st = .eval := by
  cases hst : s.st with
  | idle => exact absurd hst hidle
  | eval => rfl
  | done => exact absurd hst hdone
  | tx => rw [sequence_tx hst, txCycle_st _ hst] at h; split at h <;> cases h
  | settle => rw [sequence_settle hst, settleCycle_st hst] at h; split at h <;> cases h
  | wait => rw [sequence_wait hst, waitCycle_st hst] at h; split at h <;> cases h
  | rwait => rw [sequence_rwait hst, rwaitCycle_st hst] at h; split at h <;> cases h

@[simp] theorem beginCycle_evaluation (s : State) : s.beginCycle.evaluation = s.evaluation := rfl

/-- A code that the mask retries is final only at the last attempt (R186). -/
theorem attempts_exhausted {s : State} {c : ResultCode} (hfinal : s.retries c = false)
    (hmask : s.par.retryMask.getLsbD c.code.toNat = true) : s.par.maxAttempts ≤ s.att.toNat := by
  by_contra hleft
  exact Bool.eq_false_iff.mp hfinal ((retries_iff s c).mpr ⟨hmask, Nat.lt_of_not_le hleft⟩)

/-- Settles O55: DONE is reached by a command that fails in IDLE, or by an evaluation that does not retry. -/
theorem offeredResultIsFinal : Obligations.OfferedResultIsFinal := by
  intro s t hinv h hdone ht
  obtain ⟨_, rfl⟩ | ⟨_, hst, u, hu, rfl⟩ | ⟨_, hst, rfl⟩ := step_cases_by_state h
  · simp at ht
  · rw [State.endCycle_st] at ht
    left
    simpa [hst] using hu.done_cases hst ht
  · rw [State.endCycle_st] at ht
    have heval : s.st = .eval := eval_of_sequence_done (s := s.beginCycle) hst hdone ht
    rw [sequence_eval (s := s.beginCycle) heval] at ht
    obtain ⟨e, hfinal⟩ := evalCycle_done ht
    have hbegun : s.att ≠ 0 := (hinv.busy (by simp [heval, SeqState.inFlight])).begun
    rw [sequence_eval (s := s.beginCycle) heval, e]
    right
    refine ⟨heval, by simp, by simp; bv_omega, by simpa using hinv.attempts, by simp, fun hmask => ?_⟩
    have hmask' : s.par.retryMask.getLsbD s.evaluation.code.toNat = true := by simpa using hmask
    have hexhausted : s.par.maxAttempts ≤ s.att.toNat := attempts_exhausted (s := s) hfinal hmask'
    exact le_antisymm (by simpa using hinv.attempts) (by simpa using hexhausted)

end Sys2Proof.Machine
end

section
/-! The timing statements of the sequencer (`44_sequencer.md` R183 to R194, R264): how long SETTLE and WAIT last, and a
command that is never answered. -/

namespace Sys2Proof.Machine

/-! ## Runs

`RunsThrough P n s t`: `n` steps lead from `s` to `t`, each from a state with the property `P`. -/

/-- A run of which every state before the last has the property `P`. -/
inductive RunsThrough (P : State → Prop) : Nat → State → State → Prop
  | refl (s : State) : RunsThrough P 0 s s
  | step {n : Nat} {s t u : State} (hs : P s) (h : step s = .next t) (hrun : RunsThrough P n t u) :
      RunsThrough P (n + 1) s u

/-- Such a run in the terms of the statements. -/
theorem runsThrough_iff {P : State → Prop} {n : Nat} {s t : State} :
    RunsThrough P n s t ↔ runSteps n s = .next t ∧ ∀ k, k < n → ∃ u, runSteps k s = .next u ∧ P u := by
  constructor
  · intro h
    induction h with
    | refl s => exact ⟨runSteps_zero s, nofun⟩
    | step hs h _ ih =>
      obtain ⟨hrun, hbefore⟩ := ih
      refine ⟨(runSteps_succ _ h).trans hrun, fun k hk => ?_⟩
      cases k with
      | zero => exact ⟨_, runSteps_zero _, hs⟩
      | succ k => exact runSteps_succ k h ▸ hbefore k (Nat.lt_of_succ_lt_succ hk)
  · induction n generalizing s with
    | zero =>
      rintro ⟨hrun, _⟩
      obtain rfl := Host.Outcome.next.inj ((runSteps_zero s).symm.trans hrun)
      exact .refl s
    | succ n ih =>
      rintro ⟨hrun, hbefore⟩
      obtain ⟨s', hs', hP⟩ := hbefore 0 n.succ_pos
      obtain rfl := Host.Outcome.next.inj ((runSteps_zero s).symm.trans hs')
      cases h : step s with
      | next v =>
        rw [runSteps_succ n h] at hrun
        refine .step hP h (ih ⟨hrun, fun k hk => ?_⟩)
        exact runSteps_succ k h ▸ hbefore (k + 1) (Nat.succ_lt_succ hk)
      | fault r => exact nomatch r
      | refused r => simp [runSteps, Host.Core.run, core, h] at hrun

section
variable {P Q : State → Prop} {m n : Nat} {s t u : State}

theorem RunsThrough.trans (h : RunsThrough P m s t) (h' : RunsThrough P n t u) : RunsThrough P (m + n) s u := by
  induction h with
  | refl => rwa [Nat.zero_add]
  | step hs hstep _ ih =>
    rw [Nat.add_right_comm]
    exact .step hs hstep (ih h')

theorem RunsThrough.mono (h : RunsThrough P n s t) (hPQ : ∀ v, P v → Q v) : RunsThrough Q n s t := by
  induction h with
  | refl s => exact .refl s
  | step hs hstep _ ih => exact .step (hPQ _ hs) hstep ih

/-- The inputs after a run are those that were to come behind it. -/
theorem RunsThrough.inputAt (h : RunsThrough P n s t) (k : Nat) : t.inputAt k = s.inputAt (n + k) := by
  induction h with
  | refl => rw [Nat.zero_add]
  | step _ hstep _ ih => rw [ih, step_inputAt hstep, Nat.add_right_comm]

/-- After a run, what is left of a demand on the inputs. -/
theorem RunsThrough.during {p : Inputs → Bool} (h : RunsThrough P m s t) (hin : s.during (m + n) p) : t.during n p := by
  intro k hk
  rw [h.inputAt]
  exact hin (m + k) (Nat.add_lt_add_left hk m)

theorem RunsThrough.par_eq (h : RunsThrough P n s t) : t.par = s.par := by
  induction h with
  | refl => rfl
  | step _ hstep _ ih => rw [ih, step_par hstep]

/-- A run through states outside TX sends nothing (`10_state.md` R36). -/
theorem RunsThrough.wire_eq (h : RunsThrough P n s t) (hP : ∀ v, P v → v.st ≠ .tx) : t.wire = s.wire := by
  induction h with
  | refl => rfl
  | step hs hstep _ ih => rw [ih, step_wire hstep, linkTransfer_of_not_tx (hP _ hs), List.append_nil]

end

/-- A demand holds of the first of the cycles it is made for. -/
theorem State.during.mono_length {s : State} {m n : Nat} {p : Inputs → Bool} (h : s.during n p) (hle : m ≤ n) :
    s.during m p := fun k hk => h k (Nat.lt_of_lt_of_le hk hle)

theorem State.during.mono {s : State} {n : Nat} {p q : Inputs → Bool} (h : s.during n p)
    (hpq : ∀ i, p i = true → q i = true) : s.during n q := fun k hk => hpq _ (h k hk)

theorem rst_of_noReset {i : Inputs} (h : i.noReset = true) : i.rst = false := by simpa [Inputs.noReset] using h

/-! ## SETTLE (R183) -/

/-- What `t` is when the settle delay of `s` has led to the wait for a response. -/
structure State.WaitBegun (s t : State) : Prop where
  st : t.st = .wait
  tmr : t.tmr = s.reqTmo
  att : t.att = s.att
  frm : t.frm = s.frm

theorem step_settle {s : State} (hl : s.par.legal = true) (hr : s.sampled.rst = false) (hst : s.st = .settle) :
    step s = .next (s.endCycle s.beginCycle.settleCycle) := by
  rw [step_of_busy hl hr (by simp [hst]), sequence_settle (s := s.beginCycle) hst]

theorem settle_countsDown : CountsDown .settle State.WaitBegun where
  last := fun {s} hl hr hst htmr => by
    refine ⟨_, step_settle hl hr hst, ?_⟩
    obtain ⟨_, e⟩ | ⟨hne, _⟩ := s.beginCycle.settleCycle_cases
    · rw [e]
      exact ⟨by simp, by simp, by simp, by simp⟩
    · exact absurd htmr hne
  next := fun {s} hl hr hst htmr => by
    refine ⟨_, step_settle hl hr hst, ?_⟩
    obtain ⟨hzero, _⟩ | ⟨_, e⟩ := s.beginCycle.settleCycle_cases
    · exact absurd hzero htmr
    · rw [e]
      exact ⟨by simp [hst], by simp, fun u hu =>
        ⟨hu.st, by simpa using hu.tmr, by simpa using hu.att, by simpa using hu.frm⟩⟩

/-- Settles O49: the settle delay counts down, and its last cycle begins the wait. -/
theorem settleLastsItsLoad : Obligations.SettleLastsItsLoad := by
  intro s hl hst hin
  obtain ⟨hwaits, t, ht, hbegun⟩ := settle_countsDown.lasts s.tmr.toNat s hl hst rfl hin
  exact ⟨hwaits, t, ht, hbegun.st, hbegun.tmr, hbegun.att, hbegun.frm⟩

/-! ## WAIT (R184) -/

theorem step_wait {s : State} (hl : s.par.legal = true) (hr : s.sampled.rst = false) (hst : s.st = .wait) :
    step s = .next (s.endCycle s.beginCycle.waitCycle) := by
  rw [step_of_busy hl hr (by simp [hst]), sequence_wait (s := s.beginCycle) hst]

/-- The cycle that ends the read. -/
theorem step_wait_last {s : State} (hl : s.par.legal = true) (hr : s.sampled.rst = false) (hst : s.st = .wait)
    (hends : s.rxCnt = 8 ∨ s.tmr = 0) : ∃ t, step s = .next t ∧ t.st = .eval := by
  refine ⟨_, step_wait hl hr hst, ?_⟩
  rw [State.endCycle_st, waitCycle_st (s := s.beginCycle) hst]
  exact if_pos hends

/-- A cycle that leaves the read running counts the timer down. -/
theorem step_wait_next {s : State} (hl : s.par.legal = true) (hr : s.sampled.rst = false) (hst : s.st = .wait)
    (hcnt : s.rxCnt ≠ 8) (htmr : s.tmr ≠ 0) : ∃ t, step s = .next t ∧ t.st = .wait ∧ t.tmr = s.tmr - 1 := by
  refine ⟨_, step_wait hl hr hst, ?_⟩
  obtain ⟨hends, _⟩ | ⟨_, _, e⟩ := s.beginCycle.waitCycle_cases
  · exact absurd hends (not_or.mpr ⟨hcnt, htmr⟩)
  · rw [e]
    exact ⟨by simp [hst], by simp⟩

/-- WAIT without a complete read. -/
def State.Reading (s : State) : Prop := s.st = .wait ∧ s.rxCnt ≠ 8

/-- The read runs on without being complete until a state `w` in which it is, or the timer has run out (R193). -/
theorem wait_ends (n : Nat) : ∀ s : State, s.par.legal = true → s.st = .wait → s.tmr.toNat = n →
    s.during (n + 1) Inputs.noReset →
    ∃ m w t, m ≤ n ∧ RunsThrough State.Reading m s w ∧ w.st = .wait ∧ (w.rxCnt = 8 ∨ m = n) ∧ step w = .next t ∧
      t.st = .eval := by
  induction n with
  | zero =>
    intro s hl hst htmr hin
    obtain ⟨t, ht, hteval⟩ := step_wait_last hl (rst_of_noReset hin.sampled) hst (.inr (by bv_omega))
    exact ⟨0, s, t, le_rfl, .refl s, hst, .inr rfl, ht, hteval⟩
  | succ n ih =>
    intro s hl hst htmr hin
    have hr := rst_of_noReset hin.sampled
    by_cases hcnt : s.rxCnt = 8
    · obtain ⟨t, ht, hteval⟩ := step_wait_last hl hr hst (.inl hcnt)
      exact ⟨0, s, t, Nat.zero_le _, .refl s, hst, .inl hcnt, ht, hteval⟩
    · obtain ⟨v, hv, hvst, hvtmr⟩ := step_wait_next hl hr hst hcnt (by bv_omega)
      obtain ⟨m, w, t, hm, hrun, hwst, hends, ht, hteval⟩ :=
        ih v (step_par hv ▸ hl) hvst (by rw [hvtmr]; bv_omega) (hin.step hv)
      exact ⟨m + 1, w, t, Nat.succ_le_succ hm, .step ⟨hst, hcnt⟩ hv hrun, hwst, hends.imp_right (congrArg Nat.succ), ht,
        hteval⟩

/-- Settles O51: the last state in WAIT is the one in which the read is complete or the timer has run out. -/
theorem waitEndsWithinItsLoad : Obligations.WaitEndsWithinItsLoad := by
  intro s hl hst hin
  obtain ⟨m, w, t, hm, hrun, hwst, hends, ht, hteval⟩ := wait_ends s.tmr.toNat s hl hst rfl hin
  obtain ⟨hw, hbefore⟩ := runsThrough_iff.mp hrun
  have hwait : RunsThrough (fun u => u.st = .wait) (m + 1) s t :=
    (hrun.mono fun _ ⟨hust, _⟩ => hust).trans (.step hwst ht (.refl t))
  obtain ⟨ht', hall⟩ := runsThrough_iff.mp hwait
  refine ⟨m + 1, t, Nat.le_add_left 1 m, Nat.succ_le_succ hm, ht', hteval, fun k hk => ?_, fun u hu => ?_⟩
  · by_cases hlast : k < m
    · obtain ⟨u, hu, hust, hucnt⟩ := hbefore k hlast
      exact ⟨u, hu, hust, fun _ => hucnt⟩
    · obtain ⟨u, hu, hust⟩ := hall k hk
      exact ⟨u, hu, hust, fun hk' => absurd (Nat.lt_of_succ_lt_succ hk') hlast⟩
  · obtain rfl := Host.Outcome.next.inj (hw.symm.trans hu)
    exact hends.imp_right (congrArg Nat.succ)

end Sys2Proof.Machine
end


section
/-! The duration of a command (`44_sequencer.md` R264): one that fails before transmission, and one that is never
answered. -/

namespace Sys2Proof.Machine

/-! ## A command that fails before transmission (R102, R194) -/

/-- A result that the host takes in the cycle it is offered (R188). -/
theorem step_done_taken {s : State} (hl : s.par.legal = true) (hr : s.sampled.rst = false) (hst : s.st = .done)
    (hready : s.sampled.rspReady = true) : step s = .next ({ s.beginCycle with st := .idle } : State).advance := by
  have htaken : s.beginCycle.doneCycle = { s.beginCycle with st := .idle } := if_pos hready
  rw [step_done hl hr hst, htaken]

/-- The acceptance cycle of a command sends nothing. -/
theorem step_idle_wire {s t : State} (hst : s.st = .idle) (h : step s = .next t) : t.wire = s.wire := by
  rw [step_wire h, linkTransfer_of_not_tx (by simp [hst]), List.append_nil]

/-- The second clause of R264: the acceptance cycle leads to DONE, and the next one back to IDLE. -/
theorem failedCommand_duration {s : State} (hl : s.par.legal = true) (hst : s.st = .idle)
    (hv : s.sampled.cmdValid = true)
    (hfails : s.sampled.cmdKind = 3 ∨ valueInRange s.sampled.cmdValue = false ∨ s.sessOpen = false)
    (hin : s.during 2 Inputs.noReset) (hready : (s.inputAt 1).rspReady = true) :
    ∃ u t, runSteps 1 s = .next u ∧ u.st = .done ∧ runSteps 2 s = .next t ∧ t.st = .idle ∧ t.wire = s.wire := by
  obtain ⟨u, hu⟩ := step_answers hl
  have hust : u.st = .done := by
    rw [step_command_st (rst_of_noReset hin.sampled) hst hv hu]
    exact if_neg fun ⟨hkind, hvalue, hopen⟩ => by simp_all
  have hur : u.sampled.rst = false := rst_of_noReset (hin.step hu).sampled
  have huready : u.sampled.rspReady = true := by rwa [← inputAt_zero, step_inputAt hu]
  have ht := step_done_taken (step_par hu ▸ hl) hur hust huready
  have hwire : u.wire = s.wire := step_idle_wire hst hu
  exact ⟨u, _, runSteps_succ 0 hu, hust, (runSteps_succ 1 hu).trans (runSteps_succ 0 ht), rfl, hwire⟩

/-! ## Cycles in which nothing is received

In `Inputs.silent` inputs the transmitter is ready and no byte arrives. -/

/-- The inputs of a cycle of an unanswered command (R264). -/
def Inputs.silent (i : Inputs) : Bool := i.noReset && i.txReady && !i.rxValid

theorem silent_iff (i : Inputs) : i.silent = true ↔ i.rst = false ∧ i.txReady = true ∧ i.rxValid = false := by
  simp [Inputs.silent, Inputs.noReset, and_assoc]

theorem noReset_of_silent {i : Inputs} (h : i.silent = true) : i.noReset = true := by
  obtain ⟨hr, _⟩ := (silent_iff i).mp h
  simp [Inputs.noReset, hr]

/-- Two states of one attempt: the same command, attempt number and bytes received. -/
structure State.SameAttempt (s t : State) : Prop where
  par : t.par = s.par
  context : sameContext s t
  att : t.att = s.att
  rxCnt : t.rxCnt = s.rxCnt

theorem State.SameAttempt.refl (s : State) : s.SameAttempt s := ⟨rfl, sameContext_refl s, rfl, rfl⟩

theorem sameContext.trans {s t u : State} (h : sameContext s t) (h' : sameContext t u) : sameContext s u := by
  obtain ⟨hfrm, hsig, hshape, htmo⟩ := h
  obtain ⟨hfrm', hsig', hshape', htmo'⟩ := h'
  exact ⟨hfrm'.trans hfrm, hsig'.trans hsig, hshape'.trans hshape, htmo'.trans htmo⟩

theorem State.SameAttempt.trans {s t u : State} (h : s.SameAttempt t) (h' : t.SameAttempt u) : s.SameAttempt u :=
  ⟨h'.par.trans h.par, h.context.trans h'.context, h'.att.trans h.att, h'.rxCnt.trans h.rxCnt⟩

theorem State.SameAttempt.frm {s t : State} (h : s.SameAttempt t) : t.frm = s.frm := by
  obtain ⟨hfrm, _⟩ := h.context
  exact hfrm

theorem State.SameAttempt.reqTmo {s t : State} (h : s.SameAttempt t) : t.reqTmo = s.reqTmo := by
  obtain ⟨_, _, _, htmo⟩ := h.context
  exact htmo

/-- Only the retry wait begins an attempt, and the sequencer itself receives nothing. -/
theorem sequence_sameAttempt {s : State} (hst : s.st ≠ .rwait) : s.SameAttempt s.sequence := by
  have kept : s.sequence.att = s.att ∧ s.sequence.rxCnt = s.rxCnt := by
    cases hq : s.st with
    | idle => simp [State.sequence, hq]
    | tx =>
      rw [sequence_tx hq]
      obtain ⟨_, e⟩ | ⟨_, _, e⟩ | ⟨_, _, e⟩ := s.txCycle_cases (s.frm.byte s.txIdx.toNat) <;> simp [e]
    | settle =>
      rw [sequence_settle hq]
      obtain ⟨_, e⟩ | ⟨_, e⟩ := s.settleCycle_cases <;> simp [e]
    | wait =>
      rw [sequence_wait hq]
      obtain ⟨_, e⟩ | ⟨_, _, e⟩ := s.waitCycle_cases <;> simp [e]
    | eval =>
      rw [sequence_eval hq]
      obtain ⟨_, e⟩ | ⟨_, e⟩ := s.evalCycle_cases s.evaluation <;> simp [e]
    | rwait => exact absurd hq hst
    | done =>
      rw [sequence_done hq]
      obtain ⟨_, e⟩ | ⟨_, e⟩ := s.doneCycle_cases <;> simp [e]
  obtain ⟨hatt, hcnt⟩ := kept
  exact ⟨sequence_par s, sequence_sameContext s, hatt, hcnt⟩

/-- A cycle of an exchange in which nothing is received, outside the retry wait. -/
theorem step_sameAttempt {s t : State} (hin : s.sampled.silent = true) (hidle : s.st ≠ .idle) (hrwait : s.st ≠ .rwait)
    (h : step s = .next t) : s.SameAttempt t := by
  obtain ⟨hr, _, hnone⟩ := (silent_iff _).mp hin
  have hcap : s.captures = false := by simp [State.captures, hnone]
  obtain ⟨hl, _⟩ := step_cases h
  obtain rfl := Host.Outcome.next.inj ((step_of_busy_of_not_captures hl hr hidle hcap).symm.trans h)
  obtain ⟨hpar, hcontext, hatt, hcnt⟩ := sequence_sameAttempt (s := s.beginCycle) hrwait
  exact ⟨hpar, hcontext, hatt, hcnt⟩

/-- Two states of one attempt decide alike on a retry. -/
theorem State.SameAttempt.retries {s t : State} (h : s.SameAttempt t) (c : ResultCode) : t.retries c = s.retries c := by
  simp only [State.retries, h.par, h.att]

theorem RunsThrough.sameAttempt {P : State → Prop} {n : Nat} {s t : State} (h : RunsThrough P n s t)
    (hin : s.during n Inputs.silent) (hP : ∀ v, P v → v.st ≠ .idle ∧ v.st ≠ .rwait) : s.SameAttempt t := by
  induction h with
  | refl s => exact .refl s
  | step hs hstep _ ih =>
    obtain ⟨hidle, hrwait⟩ := hP _ hs
    exact (step_sameAttempt hin.sampled hidle hrwait hstep).trans (ih (hin.step hstep))

/-! ## An unanswered attempt, phase by phase -/

/-- The block is busy (`10_state.md` R36). -/
def State.IsBusy (s : State) : Prop := s.st ≠ .idle

/-- A run in one state of the sequencer other than IDLE keeps the block busy. -/
theorem RunsThrough.busy {q : SeqState} {n : Nat} {s t : State} (h : RunsThrough (fun u => u.st = q) n s t)
    (hq : q ≠ .idle) : RunsThrough State.IsBusy n s t := h.mono fun _ hu hidle => hq (hu.symm.trans hidle)

/-- A wait that counts down, as a run. -/
theorem CountsDown.runsThrough {q : SeqState} {Ends : State → State → Prop} (hq : CountsDown q Ends) {n : Nat}
    {s : State} (hl : s.par.legal = true) (hst : s.st = q) (htmr : s.tmr.toNat = n) (hin : s.during (n + 1) Inputs.noReset) :
    ∃ t, RunsThrough (fun u => u.st = q) (n + 1) s t ∧ Ends s t := by
  obtain ⟨hwaits, t, ht, hends⟩ := hq.lasts n s hl hst htmr hin
  exact ⟨t, runsThrough_iff.mpr ⟨ht, fun k hk => hwaits k (Nat.le_of_lt_succ hk)⟩, hends⟩

/-- `n` cycles of one attempt in which nothing is received and the bytes `bs` are sent. -/
structure SilentRun (n : Nat) (bs : List Byte) (s t : State) : Prop where
  run : RunsThrough State.IsBusy n s t
  same : s.SameAttempt t
  wire : t.wire = s.wire ++ bs

theorem SilentRun.trans {m n : Nat} {bs cs : List Byte} {s t u : State} (h : SilentRun m bs s t)
    (h' : SilentRun n cs t u) : SilentRun (m + n) (bs ++ cs) s u :=
  ⟨h.run.trans h'.run, h.same.trans h'.same, by rw [h'.wire, h.wire, List.append_assoc]⟩

/-- A phase of an attempt other than TX. -/
theorem RunsThrough.silentRun {q : SeqState} {n : Nat} {s t : State} (h : RunsThrough (fun u => u.st = q) n s t)
    (hin : s.during n Inputs.silent) (hidle : q ≠ .idle) (hrwait : q ≠ .rwait) (htx : q ≠ .tx) : SilentRun n [] s t :=
  ⟨h.busy hidle, h.sameAttempt hin fun _ hv => hv ▸ ⟨hidle, hrwait⟩,
    (h.wire_eq fun _ hv => hv ▸ htx).trans (List.append_nil _).symm⟩

/-- The cycles that send what is left of the frame, all of them in TX. -/
theorem tx_runsThrough (n : Nat) : ∀ s : State, s.par.legal = true → s.st = .tx → s.txIdx.toNat + n = 7 →
    s.during (n + 1) Inputs.silent → ∃ t, RunsThrough (fun u => u.st = .tx) (n + 1) s t ∧ s.SentRest t := by
  induction n with
  | zero =>
    intro s hl hst hidx hin
    obtain ⟨hr, hready, _⟩ := (silent_iff _).mp hin.sampled
    obtain ⟨t, ht, hsent⟩ := step_tx_last hl hr hready hst (by bv_omega)
    exact ⟨t, .step hst ht (.refl t), hsent⟩
  | succ n ih =>
    intro s hl hst hidx hin
    obtain ⟨hr, hready, _⟩ := (silent_iff _).mp hin.sampled
    obtain ⟨t, ht, htst, htidx, hrest⟩ := step_tx_next hl hr hready hst (by bv_omega)
    obtain ⟨u, hrun, hsent⟩ := ih t (step_par ht ▸ hl) htst (by omega) (hin.step ht)
    exact ⟨u, .step hst ht hrun, hrest u hsent⟩

/-- The beginning of an attempt under legal parameters (R104). -/
structure State.AttemptBegun (s : State) : Prop where
  legal : s.par.legal = true
  st : s.st = .tx
  txIdx : s.txIdx = 0
  rxCnt : s.rxCnt = 0

theorem tx_silentRun {s : State} (hs : s.AttemptBegun) (hin : s.during 8 Inputs.silent) :
    ∃ t, SilentRun 8 s.frm.toList s t ∧ t.st = .settle ∧ t.tmr = s.par.settleCycles := by
  obtain ⟨t, hrun, hsent⟩ := tx_runsThrough 7 s hs.legal hs.st (by simp [hs.txIdx]) hin
  have hsame : s.SameAttempt t := hrun.sameAttempt hin fun _ hv => by simp [hv]
  exact ⟨t, ⟨hrun.busy (by decide), hsame, by simpa [hs.txIdx] using hsent.wire⟩, hsent.st, hsent.tmr⟩

theorem settle_silentRun {n : Nat} {s : State} (hl : s.par.legal = true) (hst : s.st = .settle) (htmr : s.tmr.toNat = n)
    (hin : s.during (n + 1) Inputs.silent) : ∃ t, SilentRun (n + 1) [] s t ∧ t.st = .wait ∧ t.tmr = s.reqTmo := by
  obtain ⟨t, hrun, hbegun⟩ := settle_countsDown.runsThrough hl hst htmr (hin.mono fun _ => noReset_of_silent)
  exact ⟨t, hrun.silentRun hin (by decide) (by decide) (by decide), hbegun.st, hbegun.tmr⟩

/-- A read in which nothing arrives ends with its timer (R184). -/
theorem wait_silentRun {n : Nat} {s : State} (hl : s.par.legal = true) (hst : s.st = .wait) (hcnt : s.rxCnt = 0)
    (htmr : s.tmr.toNat = n) (hin : s.during (n + 1) Inputs.silent) : ∃ t, SilentRun (n + 1) [] s t ∧ t.st = .eval := by
  obtain ⟨m, w, t, hm, hrun, hwst, hends, ht, hteval⟩ :=
    wait_ends n s hl hst htmr (hin.mono fun _ => noReset_of_silent)
  have hwait : RunsThrough (fun u => u.st = .wait) m s w := hrun.mono fun _ ⟨hust, _⟩ => hust
  have hsame : s.SameAttempt w := hwait.sameAttempt (hin.mono_length (Nat.le_succ_of_le hm)) fun _ hv => by simp [hv]
  obtain hfull | rfl := hends
  · simp [hsame.rxCnt, hcnt] at hfull
  · exact ⟨t, (hwait.trans (.step hwst ht (.refl t))).silentRun hin (by decide) (by decide) (by decide), hteval⟩

/-- What holds after the EVAL cycle of an unanswered attempt: TIMEOUT, and it is retried or final (R186). -/
structure State.TimedOut (s : State) : Prop where
  resCode : s.resCode = .timeout
  ends : (s.retries .timeout = true ∧ s.st = .rwait ∧ s.tmr = s.par.retryDelay) ∨
    (s.retries .timeout = false ∧ s.st = .done)

/-- An empty window is a TIMEOUT (R185). -/
theorem evaluation_of_empty {s : State} (h : s.rxCnt = 0) : s.evaluation = .timeout :=
  evaluate_partial _ _ _ (by simp [h]) (by simp [h])

theorem timedOut_of_evalCycle (s : State) : (s.evalCycle .timeout).TimedOut := by
  obtain ⟨hretry, e⟩ | ⟨hfinal, e⟩ := s.evalCycle_cases .timeout <;> rw [e]
  · exact ⟨rfl, .inl ⟨hretry, rfl, rfl⟩⟩
  · exact ⟨rfl, .inr ⟨hfinal, rfl⟩⟩

theorem eval_silentRun {s : State} (hl : s.par.legal = true) (hst : s.st = .eval) (hcnt : s.rxCnt = 0)
    (hin : s.during 1 Inputs.silent) : ∃ t, SilentRun 1 [] s t ∧ t.TimedOut := by
  obtain ⟨hr, _⟩ := (silent_iff _).mp hin.sampled
  have hcap : s.captures = false := captures_of_not_receiving (by simp [hst, SeqState.receiving])
  have hstep : step s = .next (s.beginCycle.evalCycle .timeout).advance := by
    rw [step_of_busy_of_not_captures hl hr (by simp [hst]) hcap, sequence_eval (s := s.beginCycle) hst,
      beginCycle_evaluation, evaluation_of_empty hcnt]
  have hrun : RunsThrough (fun u => u.st = .eval) 1 s _ := .step hst hstep (.refl _)
  obtain ⟨hcode, hends⟩ := timedOut_of_evalCycle s.beginCycle
  exact ⟨_, hrun.silentRun hin (by decide) (by decide) (by decide), hcode, hends⟩

/-- The cycles of an attempt that is not answered: TX, SETTLE, WAIT and EVAL (R264). -/
def State.attemptCycles (s : State) : Nat := 8 + (s.par.settleCycles.toNat + 1) + (s.reqTmo.toNat + 1) + 1

/-- An attempt that is not answered sends the frame once and ends as TIMEOUT. -/
theorem attempt_silentRun {s : State} (hs : s.AttemptBegun) (hin : s.during s.attemptCycles Inputs.silent) :
    ∃ t, SilentRun s.attemptCycles s.frm.toList s t ∧ t.TimedOut := by
  have upTo {n : Nat} (hn : n ≤ s.attemptCycles) : s.during n Inputs.silent := hin.mono_length hn
  unfold State.attemptCycles at upTo
  obtain ⟨a, hsend, hast, hatmr⟩ := tx_silentRun hs (upTo (by omega))
  obtain ⟨b, hsettle, hbst, hbtmr⟩ := settle_silentRun (hsend.same.par ▸ hs.legal) hast (congrArg BitVec.toNat hatmr)
    (hsend.run.during (upTo (by omega)))
  have hsent := hsend.trans hsettle
  rw [hsend.same.reqTmo] at hbtmr
  obtain ⟨c, hwait, hcst⟩ := wait_silentRun (hsent.same.par ▸ hs.legal) hbst (hsent.same.rxCnt.trans hs.rxCnt)
    (congrArg BitVec.toNat hbtmr) (hsent.run.during (upTo (by omega)))
  have hread := hsent.trans hwait
  obtain ⟨t, heval, hout⟩ := eval_silentRun (hread.same.par ▸ hs.legal) hcst (hread.same.rxCnt.trans hs.rxCnt)
    (hread.run.during hin)
  exact ⟨t, by simpa [State.attemptCycles] using hread.trans heval, hout⟩

/-! ## All attempts unanswered (R264) -/

/-- The cycles of `r + 1` unanswered attempts with the `r` retry waits between them (R264). -/
def State.unansweredCycles (s : State) (r : Nat) : Nat := (r + 1) * s.attemptCycles + r * (s.par.retryDelay.toNat + 1)

theorem unansweredCycles_succ (s : State) (r : Nat) :
    s.unansweredCycles (r + 1) = s.attemptCycles + (s.par.retryDelay.toNat + 1) + s.unansweredCycles r := by
  unfold State.unansweredCycles
  ring

/-- What `t` is when the attempt of `s` has been unanswered and the next one begins (R187). -/
structure State.Retried (s t : State) : Prop where
  begun : t.AttemptBegun
  par : t.par = s.par
  context : sameContext s t
  att : t.att = s.att + 1
  wire : t.wire = s.wire ++ s.frm.toList

/-- An unanswered attempt that is retried sends the frame once, and nothing is sent in the retry wait. -/
theorem attempt_retried {s : State} (hs : s.AttemptBegun) (hretry : s.retries .timeout = true)
    (hin : s.during (s.attemptCycles + (s.par.retryDelay.toNat + 1)) Inputs.silent) :
    ∃ t, RunsThrough State.IsBusy (s.attemptCycles + (s.par.retryDelay.toNat + 1)) s t ∧ s.Retried t := by
  obtain ⟨w, hattempt, _, ⟨_, hwst, hwtmr⟩ | ⟨hfinal, _⟩⟩ :=
    attempt_silentRun hs (hin.mono_length (Nat.le_add_right _ _))
  · rw [hattempt.same.par] at hwtmr
    obtain ⟨t, hwait, hnext⟩ := rwait_countsDown.runsThrough (hattempt.same.par ▸ hs.legal) hwst
      (congrArg BitVec.toNat hwtmr) ((hattempt.run.during hin).mono fun _ => noReset_of_silent)
    have hpar : t.par = s.par := hwait.par_eq.trans hattempt.same.par
    have hwire : t.wire = w.wire := hwait.wire_eq fun _ hv => by simp [hv]
    exact ⟨t, hattempt.run.trans (hwait.busy (by decide)), ⟨hpar ▸ hs.legal, hnext.st, hnext.txIdx, hnext.rxCnt⟩, hpar,
      hattempt.same.context.trans hnext.context, hattempt.same.att ▸ hnext.att, hwire.trans hattempt.wire⟩
  · simp [hattempt.same.retries, hretry] at hfinal

/-- What `t` is when the attempts left to `s`, `n` of them, have all been unanswered (R186). -/
structure State.Unanswered (n : Nat) (s t : State) : Prop where
  st : t.st = .done
  resCode : t.resCode = .timeout
  att : t.att.toNat = s.par.maxAttempts
  frm : t.frm = s.frm
  wire : t.wire = s.wire ++ (List.replicate n s.frm.toList).flatten

/-- With TIMEOUT retried, the attempts left are all made. -/
theorem attempts_unanswered (r : Nat) : ∀ s : State, s.AttemptBegun → s.par.retryMask.getLsbD 9 = true →
    s.att.toNat + r = s.par.maxAttempts → s.during (s.unansweredCycles r) Inputs.silent →
    ∃ t, RunsThrough State.IsBusy (s.unansweredCycles r) s t ∧ s.Unanswered (r + 1) t := by
  induction r with
  | zero =>
    intro s hs _ hatt hin
    have hcycles : s.unansweredCycles 0 = s.attemptCycles := by simp [State.unansweredCycles]
    rw [hcycles] at hin ⊢
    obtain ⟨t, hsilent, hcode, hends⟩ := attempt_silentRun hs hin
    obtain ⟨hretry, _⟩ | ⟨_, htst⟩ := hends
    · obtain ⟨_, hlt⟩ := (retries_iff _ _).mp (hsilent.same.retries _ ▸ hretry)
      omega
    · exact ⟨t, hsilent.run, htst, hcode, hsilent.same.att ▸ hatt, hsilent.same.frm, by simpa using hsilent.wire⟩
  | succ r ih =>
    intro s hs hmask hatt hin
    rw [unansweredCycles_succ] at hin ⊢
    have hretry : s.retries .timeout = true := (retries_iff s .timeout).mpr ⟨hmask, by omega⟩
    obtain ⟨hnowrap, _⟩ := next_attempt_le hs.legal hretry
    obtain ⟨u, hrun, hbegun, hpar, ⟨hfrm, _, _, htmo⟩, huatt, hwire⟩ :=
      attempt_retried hs hretry (hin.mono_length (Nat.le_add_right _ _))
    have hcycles : u.unansweredCycles r = s.unansweredCycles r := by
      simp only [State.unansweredCycles, State.attemptCycles, hpar, htmo]
    have hleft : u.att.toNat + r = u.par.maxAttempts := by
      rw [huatt, hpar]
      bv_omega
    obtain ⟨v, hrest, hv⟩ := ih u hbegun (hpar ▸ hmask) hleft (hrun.during (hcycles ▸ hin))
    refine ⟨v, hrun.trans (hcycles ▸ hrest), hv.st, hv.resCode, hpar ▸ hv.att, hv.frm.trans hfrm, ?_⟩
    rw [hv.wire, hwire, hfrm, List.append_assoc]
    rfl

/-- The acceptance cycle of a command that is sent (R101, R102, R104). -/
theorem step_accepted {s : State} (hl : s.par.legal = true) (hr : s.sampled.rst = false) (hst : s.st = .idle)
    (hv : s.sampled.cmdValid = true) (hkind : s.sampled.cmdKind ≠ 3) (hvalue : valueInRange s.sampled.cmdValue = true)
    (hopen : s.sessOpen = true) :
    ∃ t, step s = .next t ∧ t.AttemptBegun ∧ t.att = 1 ∧ isRequestFrame t.frm ∧
      t.reqTmo = if s.sampled.cmdTmoOvr then s.sampled.cmdTmo else s.sessTmo := by
  obtain hreserved | ⟨k, hk⟩ := kindCode_cases s.sampled.cmdKind
  · exact absurd hreserved hkind
  · have hcap : s.captures = false := captures_of_not_receiving (by simp [hst, SeqState.receiving])
    have hstep := step_of_fetch hl hr (fetch_command hst hv) (exec_command_accept hst)
    rw [State.endCycle, State.capture_of_not_captures _ _ hcap, accept_of_kind s hk,
      acceptCommand_of_open k _ _ _ _ hvalue hopen] at hstep
    exact ⟨_, hstep, ⟨hl, rfl, rfl, rfl⟩, rfl, ⟨k, _, _, _, rfl⟩, readTimeout_operands s s.sampled⟩

/-- A result that is offered when `n` cycles have passed, and taken at once: the block is busy in between. -/
theorem taken_after_run {n : Nat} {s d : State} (hl : s.par.legal = true) (hrun : RunsThrough State.IsBusy n s d)
    (hst : d.st = .done) (hin : s.during (n + 1) Inputs.silent) (hready : (s.inputAt n).rspReady = true) :
    RunsThrough State.IsBusy (n + 1) s ({ d.beginCycle with st := .idle } : State).advance := by
  have hind : d.during 1 Inputs.silent := hrun.during hin
  obtain ⟨hr, _⟩ := (silent_iff _).mp hind.sampled
  have hready' : d.sampled.rspReady = true := by rwa [← inputAt_zero, hrun.inputAt]
  exact hrun.trans (.step (by simp [State.IsBusy, hst]) (step_done_taken (hrun.par_eq ▸ hl) hr hst hready') (.refl _))

/-- Settles O52: acceptance, all the attempts, and the DONE cycle in which the host takes the result. -/
theorem unansweredCommandDuration : Obligations.UnansweredCommandDuration := by
  constructor
  · intro s i0 T A total hl hmask hst hopen hv hkind hvalue hin hready
    have hi0 : i0 = s.sampled := inputAt_zero s
    have hsilent : s.during total Inputs.silent := hin
    obtain ⟨hpos, _⟩ := (legal_iff _).mp hl
    rw [hi0] at hv hkind hvalue
    obtain ⟨hr, _⟩ := (silent_iff _).mp (State.during.sampled hsilent)
    obtain ⟨u, hu, hbegun, hatt, hframe, htmo⟩ := step_accepted hl hr hst hv hkind hvalue hopen
    have hpar : u.par = s.par := step_par hu
    have htmo' : u.reqTmo = T := by rw [htmo, ← hi0]
    have hA : A - 1 + 1 = A := Nat.sub_add_cancel hpos
    have htotal : total = u.unansweredCycles (A - 1) + 1 + 1 := by
      simp only [State.unansweredCycles, State.attemptCycles, hpar, htmo', hA, total]
      ring
    rw [htotal] at hsilent hready ⊢
    have hin' := hsilent.step hu
    obtain ⟨d, hrun, hd⟩ := attempts_unanswered (A - 1) u hbegun (hpar ▸ hmask)
      (by rw [hatt, hpar, Nat.add_comm]; exact hA) (hin'.mono_length (Nat.le_succ _))
    have htaken := taken_after_run (hpar ▸ hl) hrun hd.st hin' (step_inputAt hu _ ▸ hready)
    obtain ⟨ht, hbefore⟩ := runsThrough_iff.mp htaken
    refine ⟨fun k hk hlt => ?_, _, (runSteps_succ _ hu).trans ht, rfl, hd.resCode, ?_, ?_, ?_⟩
    · obtain ⟨k, rfl⟩ := Nat.exists_eq_succ_of_ne_zero hk.ne'
      exact runSteps_succ k hu ▸ hbefore k (Nat.lt_of_succ_lt_succ hlt)
    · exact hd.att.trans (congrArg Params.maxAttempts hpar)
    · exact hd.frm ▸ hframe
    · have hwire : d.wire = s.wire ++ (List.replicate A d.frm.toList).flatten := by
        rw [hd.wire, step_idle_wire hst hu, hA, hd.frm]
      exact hwire
  · intro s i0 hl hst hv hfails hin hready
    have hi0 : i0 = s.sampled := inputAt_zero s
    rw [hi0] at hv hfails
    exact failedCommand_duration hl hst hv hfails hin hready

end Sys2Proof.Machine
end
